-- ==== Sys2Proof/Config.lean ====
section
/-! DEFINITION. The constants that 00_scope.md R6 fixes and the parameters of R7. Nothing here changes as the block runs. -/

namespace Sys2Proof

/-- `NCH`, the number of channels (R6). -/
abbrev Config.nch : Nat := 8

/-- `CH_MAX`, the largest legal channel index (R6). -/
abbrev Config.chMax : Nat := 7

/-- `FRAME_LEN`, bytes in a frame (R6). -/
abbrev Config.frameLen : Nat := 3

/-- `WORD_BITS`, bits in a bus word (R6). -/
abbrev Config.wordBits : Nat := 8

/-- `START`, the value of command byte 0 (R6, R48). -/
abbrev Config.start : Nat := 1

/-- `MODE_SGL`, the mode bit as a value added to the channel (R6, R49). -/
abbrev Config.modeSgl : Nat := 8

/-- `CH_SHIFT`, the left shift of mode and channel (R6, R49). -/
abbrev Config.chShift : Nat := 4

/-- `PAD`, the value of command byte 2 (R6, R50). -/
abbrev Config.pad : Nat := 0

/-- `SAMPLE_BITS` (R6). -/
abbrev Config.sampleBits : Nat := 10

/-- `SAMPLE_MASK`, applied by the decoder (R6, R67). -/
abbrev Config.sampleMask : Nat := 0x3FF

/-- `SAMPLE_MAX` (R6). -/
abbrev Config.sampleMax : Nat := 1023

/-- The default of `CH_W`, the width of the channel operand of a request, which the opcode table shows. The width is open (R7,
D5): it is an argument `chW` of the decoder and the encoder and a field of State that no step changes (log entry 3). -/
abbrev Config.chWDefault : Nat := 4

/-- The least width of the channel operand: "`CH_W >= 3`" (R7, D5). -/
abbrev Config.chWMin : Nat := 3

/-- `TICK_PERIOD`, the host's polling period in seconds (R103). No step reads it: the model has no time (R133). -/
def Config.tickPeriodSeconds : Nat := 1

/-- The order of the bits of a byte on the wire: the type of `SPI_BIT_ORDER` (R32). -/
inductive Config.BitOrder where
  | msbFirst
  | lsbFirst
  deriving DecidableEq, Repr, Inhabited

/-- `SPI_BIT_ORDER`: open (D17), no rule reads it. A constant without a value (log entry 19). -/
opaque Config.spiBitOrder : Config.BitOrder

/-- `SPI_MODE`: open (D17), no rule reads it. A constant without a value (log entry 19). -/
opaque Config.spiMode : Nat

/-- `SPI_CLK_HZ`: open (D17), no rule reads it. A constant without a value (log entry 19). -/
opaque Config.spiClkHz : Nat

end Sys2Proof
end

