-- ==== Sys2Proof/Word.lean ====
section
/-! DEFINITION. The word types: a byte, a frame of three bytes, a sample, a channel. -/

namespace Sys2Proof

/-- A bus word, 8 bits (R6 `WORD_BITS`). -/
abbrev Byte := BitVec 8

/-- A Sample, 10 bits, unsigned (R6 `SAMPLE_BITS`, R67). -/
abbrev Sample := BitVec 10

/-- A legal channel index, 0 to 7: the type R65 recommends, so that ENC cannot be asked about channel 8. -/
abbrev Channel := Fin 8

/-- A request word, `{req_op, req_ch}`, as a number: `1 + CH_W` bits, `req_op` bit `CH_W` (R55). The width is open, so the
number is checked against it where the word is read (R60). -/
abbrev ReqWord := Nat

/-- A frame `[b0, b1, b2]`; byte 0 is the first of the sequence (R9, R32). -/
structure Frame where
  b0 : Byte
  b1 : Byte
  b2 : Byte
  deriving DecidableEq, Repr

/-- The word types have the sizes that R6 fixes. -/
theorem word_sizes : Config.wordBits = 8 ∧ Config.sampleBits = 10 ∧ Config.nch = 8 ∧ Config.chMax + 1 = Config.nch ∧
    Config.sampleMax + 1 = 2 ^ Config.sampleBits := by decide

end Sys2Proof
end

