-- ==== Sys2Proof/Machine/Codec.lean ====
section
/-! DEFINITION. The frame codec: the pure functions ENC (R63) and DEC (R67). -/

namespace Sys2Proof.Machine

/-- `ENC(c)`: `[START, (MODE_SGL + c) << CH_SHIFT, PAD]`, byte 1 computed in 8 bits (R63). -/
def enc (c : Channel) : Frame :=
  { b0 := BitVec.ofNat 8 Config.start,
    b1 := BitVec.ofNat 8 (Config.modeSgl + c.val) <<< Config.chShift,
    b2 := BitVec.ofNat 8 Config.pad }

/-- `DEC(rx)`: `((r1 << 8) | r2) & 0x3FF` in 16 bits, then the low 10 bits (R67, R68). -/
def dec (rx : Frame) : Sample :=
  let w : BitVec 16 := (rx.b1.setWidth 16 <<< 8) ||| rx.b2.setWidth 16
  (w &&& BitVec.ofNat 16 Config.sampleMask).setWidth 10

end Sys2Proof.Machine
end

