-- ==== Sys2Proof/Machine/State.lean ====
section
/-! DEFINITION. The state of the block, its ports and the two agents around it, as plain data; the reasons a step can stop;
the state after reset. -/

namespace Sys2Proof.Machine

/-- R15: what the sequencer is doing. -/
inductive Phase where
  /-- No operation in progress; a REQ may happen. -/
  | idle
  /-- An operation in progress, no transfer in flight, the current channel not started. -/
  | run
  /-- A transfer in flight; only the bus agent can step. -/
  | wait
  deriving DecidableEq, Repr

/-- R16: the operation in progress. -/
inductive Op where
  | readCh
  | readAll
  deriving DecidableEq, Repr

/-- What a REQ event asks for (R14). -/
inductive Request where
  | readCh (c : Nat)
  | readAll
  deriving DecidableEq, Repr

/-- R22: the status of a response. -/
inductive Status where
  | ok
  | transferFailed
  | invalidChannel
  deriving DecidableEq, Repr

/-- R22: an RSP event. A payload exists with status OK only: a Sample after READ_CH, a Reading Set after READ_ALL; an error
carries none, so there is nothing to read there (log entry 22). -/
inductive Response where
  | sample (v : Sample)
  | readingSet (v : Vector Sample 8)
  | transferFailed
  | invalidChannel
  deriving DecidableEq, Repr

/-- R29, R34: how the bus agent ends a transfer. A failure carries no bytes and no cause. -/
inductive XEnd where
  | ok (rx : Frame)
  | fail
  deriving DecidableEq, Repr

/-- The events of a trace (R14, R61), and the reset of R117. -/
inductive Event where
  | req (r : Request)
  | xstart (tx : Frame)
  | xend (a : XEnd)
  | rsp (r : Response)
  | rst
  deriving DecidableEq, Repr

/-- What the host does next (R100, R110): hold a request word at the port (a host other than the document's), take a
timer tick, take the interrupt signal, or assert `rst`. -/
inductive HostEvent where
  | request (w : ReqWord)
  | tick
  | interrupt
  | rst
  deriving DecidableEq, Repr

/-- R121: the boot steps of the platform, in order. -/
inductive BootStep where
  | busLibraryInit
  | portOpen
  | speedLimit
  | connect
  deriving DecidableEq, Repr

/-- R109: how the host's process ends. -/
inductive ExitStatus where
  | normal
  | fatal
  deriving DecidableEq, Repr

/-- R100 and R121: where the host stands. -/
inductive HostMode where
  | booting (next : BootStep)
  | running
  | terminated (status : ExitStatus)
  deriving DecidableEq, Repr

/-- R114: the bus connection, acquired at startup and released at process exit. -/
inductive Session where
  | acquiring
  | connected
  | released
  deriving DecidableEq, Repr

/-- R104 and R108: one line the host prints. The texts are not given (U19), so a line is a name. -/
inductive ConsoleLine where
  | header
  | channel (n : Channel) (value : Sample)
  | exitNotice
  | errorMessage
  deriving DecidableEq, Repr

/-- The host agent (60_exceptions.md section 4), outside the block (log entry 15). -/
structure HostAgent where
  /-- Booting, Running or Terminating (R100, R121). -/
  mode : HostMode
  /-- What each boot step still to come gives, in order (R121, R122). -/
  bootResults : List Bool
  /-- The events still to come, in order; the host takes one at a time (R105). -/
  events : List HostEvent
  /-- The host is inside a tick, blocked in the Collector (R101, R105). -/
  polling : Bool
  /-- The lines printed so far, in order (R108). -/
  console : List ConsoleLine
  /-- The sticky mark of R99: some response carried an error status. -/
  goneWrong : Bool
  deriving DecidableEq, Repr

/-- The block's transient state, its ports, and the agents around it. An element that holds no value (R26) is `none`. -/
structure State where
  /-- `CH_W`, the width of the channel operand: an open parameter (R7), fixed for the block (log entry 3). -/
  chW : Nat
  /-- R15. -/
  phase : Phase
  /-- R16. -/
  op : Option Op
  /-- R17. -/
  ch : Option Nat
  /-- R18. -/
  k : Option Channel
  /-- R19. -/
  acc : Vector (Option Sample) 8
  /-- R20. -/
  tx : Option Frame
  /-- R21. -/
  rx : Option Frame
  /-- `req_valid`, `req_op`, `req_ch`: the request word held at the port (R14, R125). -/
  req : Option ReqWord
  /-- `xfer_done`, `xfer_fail`, `xfer_rx`: the answer at the bus port (R14). -/
  xend : Option XEnd
  /-- `rst` (R117). -/
  rst : Bool
  /-- `xfer_start`, `xfer_tx`: the XSTART event of the last step (R14). -/
  xstart : Option Frame
  /-- `rsp_valid` and the response fields: the RSP event of the last step (R14, R22). -/
  rsp : Option Response
  /-- The answers the bus agent will give, in order: draws (R33, R34). -/
  answers : List XEnd
  /-- The host agent. -/
  host : HostAgent
  /-- The events so far, newest first: the record of R42, which no step reads. -/
  history : List Event
  deriving DecidableEq, Repr

/-- The state elements that can hold no value (R26). -/
inductive Element where
  | op
  | ch
  | k
  | acc
  deriving DecidableEq, Repr

/-- The machine stops with a fault. -/
inductive Fault where
  /-- An element was read that the current operation has not written: "a model must treat such a read as a modelling
  fault" (R26). Raised by the sequencer's operations that read `op`, `ch`, `k` or `acc`; no state that meets the
  invariant raises it. Safe. -/
  | noValue (e : Element)
  deriving DecidableEq, Repr

/-- The machine gives no meaning. -/
inductive Refusal where
  /-- An instruction without a meaning, by its mnemonic; raised by no arm of this model. Safe. -/
  | notModelled (mnemonic : String)
  /-- "An event cannot happen in a phase not listed for it" (R86). Raised by the meaning of a word whose event the phase
  does not list, or while `rst` is asserted (R117). Safe. -/
  | eventNotEnabled
  /-- A word on an output port that the block does not produce from this state (R51, R58, R86). Raised by the meanings of
  Command Frames and of statuses. Safe. -/
  | notProduced
  /-- `rst` asserted with a transfer in flight: "outside the contract of this spec" (R119, U7). Raised by the step. Safe. -/
  | resetInFlight
  /-- An answer stands at the bus port and no transfer is in flight: "XEND only in WAIT" (R86). Raised by the step. Safe. -/
  | strayXend
  /-- The word is no word of its port: a request above `1 + CH_W` bits (R55, R60). Raised by the step on such a number at the
  request port, and by the meaning of a request whose `req_ch` is above `CH_W` bits. Safe. -/
  | undecodable
  deriving DecidableEq, Repr

/-- The empty Reading Set: no entry holds a value (R26). -/
def noSamples : Vector (Option Sample) 8 := #v[none, none, none, none, none, none, none, none]

/-- The host after reset of the block: running, nothing to do (log entry 16). -/
def HostAgent.reset : HostAgent :=
  { mode := .running, bootResults := [], events := [], polling := false, console := [], goneWrong := false }

/-- A block of width `chW` after reset. R118 and R27: IDLE, no element holds a value, no event is pending in either direction.
The lists of the agents and the record are empty (log entries 9, 14, 16, 17). -/
def State.resetAt (chW : Nat) : State :=
  { chW := chW, phase := .idle, op := none, ch := none, k := none, acc := noSamples, tx := none, rx := none,
    req := none, xend := none, rst := false, xstart := none, rsp := none,
    answers := [], host := HostAgent.reset, history := [] }

/-- The state after reset, at the default width (log entry 3). -/
def State.reset : State := State.resetAt Config.chWDefault

end Sys2Proof.Machine
end

