-- ==== Sys2Proof/Machine/Flags.lean ====
section
/-! DEFINITION. The block has no condition codes; its one status indication is the status of the RSP event (R22). This file
computes what the response port shows: the status code and the payload fields (R56), and `req_ready` (R27, R125). -/

namespace Sys2Proof.Machine

/-- The status of a response (R22). -/
def Response.status : Response → Status
  | .sample _ => .ok
  | .readingSet _ => .ok
  | .transferFailed => .transferFailed
  | .invalidChannel => .invalidChannel

/-- The 2-bit code of a status (R56). -/
def Status.code : Status → BitVec 2
  | .ok => 0
  | .transferFailed => 1
  | .invalidChannel => 2

/-- Whether the response is one of the two errors of R89. -/
def Response.isError : Response → Bool
  | .sample _ => false
  | .readingSet _ => false
  | .transferFailed => true
  | .invalidChannel => true

/-- `rsp_sample`: valid with status OK after READ_CH only (R56). -/
def Response.rspSample : Response → Option Sample
  | .sample v => some v
  | .readingSet _ => none
  | .transferFailed => none
  | .invalidChannel => none

/-- The 80 bits of a Reading Set: the Sample of channel i in bits 10*i+9 : 10*i (R56). -/
def packSet (v : Vector Sample 8) : BitVec 80 :=
  v[7] ++ v[6] ++ v[5] ++ v[4] ++ v[3] ++ v[2] ++ v[1] ++ v[0]

/-- `rsp_set`: valid with status OK after READ_ALL only (R56). -/
def Response.rspSet : Response → Option (BitVec 80)
  | .sample _ => none
  | .readingSet v => some (packSet v)
  | .transferFailed => none
  | .invalidChannel => none

/-- `req_ready`: a request can be accepted (R27, R125), not while `rst` is asserted (R117). -/
def State.reqReady (s : State) : Bool := decide (s.phase = .idle) && !s.rst

/-- Whether the events that phase `p` lists can happen: the block is in `p` and `rst` is not asserted (R86, R117). -/
def State.enabled (p : Phase) (s : State) : Bool := decide (s.phase = p) && !s.rst

end Sys2Proof.Machine
end

