-- ==== Sys2Proof/Machine/Operands.lean ====
section
/-! DEFINITION. The operands a transition reads: the current channel `cur` of R86 with the range check of R76, and the complete
Reading Set of R81. Reading an element that holds no value is a fault (R26). -/

namespace Sys2Proof.Machine

/-- The current channel after the range check. -/
inductive Cur where
  /-- 0 to 7. -/
  | legal (c : Channel)
  /-- Above 7 (R57). -/
  | outOfRange
  deriving DecidableEq, Repr

/-- The range check: `ch > 7` (R76). -/
def rangeCheck (c : Nat) : Cur :=
  if h : c < 8 then .legal ⟨c, h⟩ else .outOfRange

/-- `cur`: `ch` when `op = READ_CH`, `k` when `op = READ_ALL` (R86). -/
def State.cur (s : State) : Except Fault Cur :=
  match s.op with
  | none => .error (.noValue .op)
  | some .readCh =>
    match s.ch with
    | none => .error (.noValue .ch)
    | some c => .ok (rangeCheck c)
  | some .readAll =>
    match s.k with
    | none => .error (.noValue .k)
    | some k => .ok (.legal k)

/-- All eight Samples, where each entry holds one (R81). -/
def readingSet? (acc : Vector (Option Sample) 8) : Option (Vector Sample 8) :=
  match acc[0], acc[1], acc[2], acc[3], acc[4], acc[5], acc[6], acc[7] with
  | some a, some b, some c, some d, some e, some f, some g, some h => some #v[a, b, c, d, e, f, g, h]
  | _, _, _, _, _, _, _, _ => none

end Sys2Proof.Machine
end

