-- ==== Sys2Proof/Machine/Ops.lean ====
section
/-! DEFINITION. The shared operations of the block: accepting and holding a request, starting and ending a transfer, delivering
a response (which is also the entry of an error, R96; there is no return from one, R98), and reset. Every operation that
answers a next state drops the event outputs of the step before it, since an event is no register (R22, log entry 7). -/

namespace Sys2Proof.Machine

/-- No event in this step (R27: `xfer_start`, `rsp_valid` 0). -/
def State.quiet (s : State) : State := { s with xstart := none, rsp := none }

/-- The lines of a successful tick: a header, then one line per channel in channel order (R108). Whether a blank line separates
ticks is open (N10); the model prints none (log entry 17). -/
def printReadingSet (v : Vector Sample 8) : List ConsoleLine :=
  [.header, .channel 0 v[0], .channel 1 v[1], .channel 2 v[2], .channel 3 v[3], .channel 4 v[4], .channel 5 v[5],
    .channel 6 v[6], .channel 7 v[7]]

/-- The host takes a response when it is delivered (R110, R129). Inside a tick it prints a Reading Set, and on an error it
prints a message and terminates (R101, R104); another host only takes it. An error sets the sticky mark (R99). -/
def HostAgent.take (r : Response) (h : HostAgent) : HostAgent :=
  let h' := { h with polling := false, goneWrong := h.goneWrong || r.isError }
  match h.polling, r with
  | false, _ => h'
  | true, .readingSet v => { h' with console := h.console ++ printReadingSet v }
  | true, .sample _ => h'
  | true, .transferFailed => { h' with mode := .terminated .fatal, console := h.console ++ [.errorMessage] }
  | true, .invalidChannel => { h' with mode := .terminated .fatal, console := h.console ++ [.errorMessage] }

/-- `respond Ok(v)` and `respond Err(e)` (R10): deliver the RSP event, discard every transient element and return to IDLE
(R87, R96). Nothing is saved and there is no vector: control goes to the requester. -/
def respond (r : Response) (s : State) : State :=
  { s with
    phase := .idle, op := none, ch := none, k := none, acc := noSamples, tx := none, rx := none,
    xstart := none, rsp := some r, host := s.host.take r, history := .rsp r :: s.history }

/-- The REQ event, transitions T1 and T2: the operation begins (R75, R81). -/
def acceptRequest (r : Request) (s : State) : State :=
  let s' := { s.quiet with phase := .run, req := none, history := .req r :: s.history }
  match r with
  | .readCh c => { s' with op := some .readCh, ch := some c }
  | .readAll => { s' with op := some .readAll, k := some 0 }

/-- A request offered while it cannot be accepted is held at the port, "neither lost nor queued" (R125, log entry 8). -/
def holdRequest (w : ReqWord) (s : State) : State := { s.quiet with req := some w }

/-- A request word offered at the port: accepted in IDLE, else held (R75, R125). `ch` is its `req_ch`; of more than `CH_W` bits
there is no such word (R55, R60). -/
def offerRequest (ch : Nat) (w : ReqWord) (r : Request) (s : State) : Host.Outcome State Fault Refusal :=
  if 2 ^ s.chW ≤ ch then .refused .undecodable
  else if s.enabled .idle then .next (acceptRequest r s)
  else .next (holdRequest w s)

/-- The start of a transfer, transition T4: write `tx`, the XSTART event, to WAIT (R73). -/
def startTransfer (tx : Frame) (s : State) : State :=
  { s with tx := some tx, phase := .wait, xstart := some tx, rsp := none, history := .xstart tx :: s.history }

/-- A Command Frame goes out: T4 in phase RUN, of the current channel only (R51, R86). -/
def sendCommand (chan : Nat) (s : State) : Host.Outcome State Fault Refusal :=
  if s.enabled .run then
    match s.cur with
    | .error f => .fault f
    | .ok .outOfRange => .refused .notProduced
    | .ok (.legal c) => if c.val = chan then .next (startTransfer (enc c) s) else .refused .notProduced
  else .refused .eventNotEnabled

/-- Transitions T6 and T7: store the Sample of channel `k`; go on with the next channel, or deliver the Reading Set after
channel 7 (R81, R86). -/
def collect (k : Channel) (r : Frame) (s : State) : Host.Outcome State Fault Refusal :=
  let s' := { s with rx := some r, acc := s.acc.set k.val (some (dec r)) }
  if k.val < 7 then .next { s' with k := some (k + 1), phase := .run }
  else
    match readingSet? s'.acc with
    | none => .fault (.noValue .acc)
    | some v => .next (respond (.readingSet v) s')

/-- The XEND event, transitions T5 to T8 in one step (R74, R86): the answer is taken from the port, and the sequencer
decodes, stores and responds as the operation asks. -/
def endTransfer (a : XEnd) (s : State) : Host.Outcome State Fault Refusal :=
  let s' := { s.quiet with xend := none, history := .xend a :: s.history }
  match a with
  | .fail => .next (respond .transferFailed s')
  | .ok r =>
    match s.op with
    | none => .fault (.noValue .op)
    | some .readCh => .next (respond (.sample (dec r)) { s' with rx := some r })
    | some .readAll =>
      match s.k with
      | none => .fault (.noValue .k)
      | some k => collect k r s'

/-- Whether XEND Ok ends the operation: after READ_CH, or after channel 7 of READ_ALL (T5, T7 of R86). -/
def State.lastTransfer (s : State) : Except Fault Bool :=
  match s.op with
  | none => .error (.noValue .op)
  | some .readCh => .ok true
  | some .readAll =>
    match s.k with
    | none => .error (.noValue .k)
    | some k => .ok (k == 7)

/-- The block and its ports as reset leaves them: "no event is pending in either direction" (R118). The record shows the
reset; the host, whose operation is discarded with no response (R119), waits for none. -/
def resetBlock (s : State) : State :=
  { State.resetAt s.chW with
    answers := s.answers, host := { s.host with polling := false }, history := .rst :: s.history }

end Sys2Proof.Machine
end

