-- ==== Sys2Proof/Machine/CommandFrames.lean ====
section
/-! DEFINITION. The meanings of the command_frame rows: XSTART of a channel's frame, transition T4 (R63, R73, R86). -/

namespace Sys2Proof.Machine

/-- `CMD_SGL`: the Command Frame of channel `chan` (R47, R73). -/
def execCmdSgl (chan : Nat) (s : State) : Host.Outcome State Fault Refusal := sendCommand chan s

/-- `CMD_SGL0` (R51, R73). -/
def execCmdSgl0 (s : State) : Host.Outcome State Fault Refusal := sendCommand 0 s

/-- `CMD_SGL1` (R51, R73). -/
def execCmdSgl1 (s : State) : Host.Outcome State Fault Refusal := sendCommand 1 s

/-- `CMD_SGL2` (R51, R73). -/
def execCmdSgl2 (s : State) : Host.Outcome State Fault Refusal := sendCommand 2 s

/-- `CMD_SGL3` (R51, R73). -/
def execCmdSgl3 (s : State) : Host.Outcome State Fault Refusal := sendCommand 3 s

/-- `CMD_SGL4` (R51, R73). -/
def execCmdSgl4 (s : State) : Host.Outcome State Fault Refusal := sendCommand 4 s

/-- `CMD_SGL5` (R51, R73). -/
def execCmdSgl5 (s : State) : Host.Outcome State Fault Refusal := sendCommand 5 s

/-- `CMD_SGL6` (R51, R73). -/
def execCmdSgl6 (s : State) : Host.Outcome State Fault Refusal := sendCommand 6 s

/-- `CMD_SGL7` (R51, R73). -/
def execCmdSgl7 (s : State) : Host.Outcome State Fault Refusal := sendCommand 7 s

end Sys2Proof.Machine
end

