-- ==== Sys2Proof/Machine/Requests.lean ====
section
/-! DEFINITION. The meanings of the request_word rows: the REQ event, transitions T1 and T2 (R75, R81, R86); held while the
block is busy (R125). -/

namespace Sys2Proof.Machine

/-- `READ_CH c` (R75, R77): the range check comes with the next step (T3, R76). -/
def execReadCh (c : Nat) (s : State) : Host.Outcome State Fault Refusal :=
  offerRequest c c (.readCh c) s

/-- `READ_ALL` (R81): the `req_ch` bits have no effect (R55). -/
def execReadAll (ignored : Nat) (s : State) : Host.Outcome State Fault Refusal :=
  offerRequest ignored (2 ^ s.chW + ignored) .readAll s

end Sys2Proof.Machine
end

