-- ==== Sys2Proof/Machine/ResponseFrames.lean ====
section
/-! DEFINITION. The meaning of the response_frame row: XEND Ok, transitions T5 to T7 (R67, R74, R86). -/

namespace Sys2Proof.Machine

/-- `RSP_FRAME`: the transfer in flight ends with the bytes `rx` (R74). -/
def execRspFrame (rx : Frame) (s : State) : Host.Outcome State Fault Refusal :=
  if s.enabled .wait then endTransfer (.ok rx) s else .refused .eventNotEnabled

end Sys2Proof.Machine
end

