-- ==== Sys2Proof/Machine/Statuses.lean ====
section
/-! DEFINITION. The meanings of the response_status rows: the transition that delivers the RSP event with that status (R22, R86).
The block delivers one only where the transition that carries it is enabled. -/

namespace Sys2Proof.Machine

/-- `OK`: transitions T5 and T7, the response that XEND Ok of the operation's last transfer brings (R22, R56, R86). The
transfer's bytes are those at the bus port (log entry 1). -/
def execOk (s : State) : Host.Outcome State Fault Refusal :=
  if s.enabled .wait then
    match s.xend with
    | some (.ok r) =>
      match s.lastTransfer with
      | .error f => .fault f
      | .ok true => endTransfer (.ok r) s
      | .ok false => .refused .notProduced
    | some .fail => .refused .notProduced
    | none => .refused .notProduced
  else .refused .eventNotEnabled

/-- `TRANSFER_FAILED`: transition T8, the response that XEND Fail brings (R79, R90). -/
def execTransferFailed (s : State) : Host.Outcome State Fault Refusal :=
  if s.enabled .wait then
    match s.xend with
    | some .fail => endTransfer .fail s
    | some (.ok _) => .refused .notProduced
    | none => .refused .notProduced
  else .refused .eventNotEnabled

/-- `INVALID_CHANNEL`: transition T3, the response to a channel index above 7; no frame is built (R76, R91). -/
def execInvalidChannel (s : State) : Host.Outcome State Fault Refusal :=
  if s.enabled .run then
    match s.cur with
    | .error f => .fault f
    | .ok .outOfRange => .next (respond .invalidChannel s)
    | .ok (.legal _) => .refused .notProduced
  else .refused .eventNotEnabled

end Sys2Proof.Machine
end

