-- ==== Sys2Proof/Syntax.lean ====
section
/-! DEFINITION. One constructor for each row of the opcode table. A row is a word that passes one of the block's ports
(log entry 1); its operands are the fields the row leaves open. -/

namespace Sys2Proof

/-- The ports' word formats (the table's `format`). -/
inductive Format where
  /-- The word of an XSTART event, block to bus agent, 24 bits (R47). -/
  | commandFrame
  /-- The word of an XEND event with data, bus agent to block, 24 bits (R52). -/
  | responseFrame
  /-- The word of a REQ event, host to block, `1 + CH_W` bits (R55). -/
  | requestWord
  /-- The status of an RSP event, block to host, 2 bits (R56). -/
  | responseStatus
  deriving DecidableEq, Repr

/-- The 15 rows of the opcode table, in the table's order. -/
inductive Instr where
  /-- `CMD_SGL`: the Command Frame of channel `chan` (R47). -/
  | cmdSgl (chan : Nat)
  /-- `CMD_SGL0`: the Command Frame of channel 0 (R51). -/
  | cmdSgl0
  /-- `CMD_SGL1`: the Command Frame of channel 1 (R51). -/
  | cmdSgl1
  /-- `CMD_SGL2`: the Command Frame of channel 2 (R51). -/
  | cmdSgl2
  /-- `CMD_SGL3`: the Command Frame of channel 3 (R51). -/
  | cmdSgl3
  /-- `CMD_SGL4`: the Command Frame of channel 4 (R51). -/
  | cmdSgl4
  /-- `CMD_SGL5`: the Command Frame of channel 5 (R51). -/
  | cmdSgl5
  /-- `CMD_SGL6`: the Command Frame of channel 6 (R51). -/
  | cmdSgl6
  /-- `CMD_SGL7`: the Command Frame of channel 7 (R51). -/
  | cmdSgl7
  /-- `RSP_FRAME`: a Response Frame, any 24 bits (R52). -/
  | rspFrame (rx : Frame)
  /-- `READ_CH`: read one channel; the index may be out of range (R55, R75). -/
  | readCh (c : Nat)
  /-- `READ_ALL`: read all channels; the `req_ch` bits are carried and ignored (R55, R81). -/
  | readAll (ignored : Nat)
  /-- `OK`: status code 0 (R56). -/
  | ok
  /-- `TRANSFER_FAILED`: status code 1 (R56, R90). -/
  | transferFailed
  /-- `INVALID_CHANNEL`: status code 2 (R56, R91). -/
  | invalidChannel
  deriving DecidableEq, Repr

/-- The port an instruction's word passes. -/
def Instr.format : Instr → Format
  | .cmdSgl _ | .cmdSgl0 | .cmdSgl1 | .cmdSgl2 | .cmdSgl3 | .cmdSgl4 | .cmdSgl5 | .cmdSgl6 | .cmdSgl7 => .commandFrame
  | .rspFrame _ => .responseFrame
  | .readCh _ | .readAll _ => .requestWord
  | .ok | .transferFailed | .invalidChannel => .responseStatus

end Sys2Proof
end

