-- ==== Sys2Proof/Machine/Dispatch.lean ====
section
/-! DEFINITION. One arm for each row of the opcode table. -/

namespace Sys2Proof.Machine

/-- The meaning of each instruction. -/
def exec (i : Instr) (s : State) : Host.Outcome State Fault Refusal :=
  match i with
  | .cmdSgl chan => Sys2Proof.Machine.execCmdSgl chan s
  | .cmdSgl0 => Sys2Proof.Machine.execCmdSgl0 s
  | .cmdSgl1 => Sys2Proof.Machine.execCmdSgl1 s
  | .cmdSgl2 => Sys2Proof.Machine.execCmdSgl2 s
  | .cmdSgl3 => Sys2Proof.Machine.execCmdSgl3 s
  | .cmdSgl4 => Sys2Proof.Machine.execCmdSgl4 s
  | .cmdSgl5 => Sys2Proof.Machine.execCmdSgl5 s
  | .cmdSgl6 => Sys2Proof.Machine.execCmdSgl6 s
  | .cmdSgl7 => Sys2Proof.Machine.execCmdSgl7 s
  | .rspFrame rx => Sys2Proof.Machine.execRspFrame rx s
  | .readCh c => Sys2Proof.Machine.execReadCh c s
  | .readAll ignored => Sys2Proof.Machine.execReadAll ignored s
  | .ok => Sys2Proof.Machine.execOk s
  | .transferFailed => Sys2Proof.Machine.execTransferFailed s
  | .invalidChannel => Sys2Proof.Machine.execInvalidChannel s

end Sys2Proof.Machine
end

