-- ==== Sys2Proof/WellFormed.lean ====
section
/-! DEFINITION. Which instruction terms have an encoding. A Response Frame is held by its type; two operands are checked: the
channel of the generic Command Frame, "No Command Frame is defined for such an index" (R57, R65), and the `req_ch` bits of
a request, `CH_W` of them (R55). -/

namespace Sys2Proof

/-- Whether the instruction has an encoding in a block of width `chW`: the channel of a Command Frame is 0 to `CH_MAX` (R57),
the `req_ch` of a request has `CH_W` bits (R55). -/
def Instr.wellFormed (chW : Nat) (i : Instr) : Bool :=
  match i with
  | .cmdSgl chan => decide (chan ≤ Config.chMax)
  | .cmdSgl0 | .cmdSgl1 | .cmdSgl2 | .cmdSgl3 | .cmdSgl4 | .cmdSgl5 | .cmdSgl6 | .cmdSgl7 => true
  | .rspFrame _ => true
  | .readCh c => decide (c < 2 ^ chW)
  | .readAll x => decide (x < 2 ^ chW)
  | .ok | .transferFailed | .invalidChannel => true

end Sys2Proof
end

