-- ==== Sys2Proof/Decode.lean ====
section
/-! DEFINITION. The decoder of each port's words, total and rejecting by name, and after it the encoder, written from the
encoding tables of 30_encoding.md. A word is a number whose bit 0 is its least significant bit (R8). -/

namespace Sys2Proof

/-- The 24-bit value of a frame: byte 0 in bits 23:16, byte 1 in 15:8, byte 2 in 7:0 (R46). -/
def Frame.toWord (f : Frame) : BitVec 24 := f.b0 ++ f.b1 ++ f.b2

/-- The frame of a 24-bit value (R46). -/
def Frame.ofWord (w : BitVec 24) : Frame :=
  { b0 := w.extractLsb' 16 8, b1 := w.extractLsb' 8 8, b2 := w.extractLsb' 0 8 }

/-- The opcode table's specific row of a channel: `CMD_SGL0` to `CMD_SGL7` (R51). -/
def cmdOf : Channel → Instr
  | 0 => .cmdSgl0
  | 1 => .cmdSgl1
  | 2 => .cmdSgl2
  | 3 => .cmdSgl3
  | 4 => .cmdSgl4
  | 5 => .cmdSgl5
  | 6 => .cmdSgl6
  | 7 => .cmdSgl7

/-- Why a word is rejected. -/
inductive DecodeError where
  /-- The word has a one above the port's width: no such word can stand at the port (R60). -/
  | tooWide
  /-- A 24-bit word that is not one of the 8 Command Frames (R58, R62). -/
  | notACommandFrame
  /-- Status code 3, "reserved and never produced" (R56, R59). -/
  | reservedStatus
  deriving DecidableEq, Repr

/-- Whether a number is a legal Command Frame: `tx & 0xFF8FFF = 0x018000` (R62). -/
def isCommandFrame (w : Nat) : Bool := decide (w < 2 ^ 24) && (w &&& 0xFF8FFF == 0x018000)

/-- The channel of a Command Frame, `tx[14:12]` (R62). -/
def channelBits (w : Nat) : Channel := ⟨(w >>> 12) % 8, Nat.mod_lt _ (by decide)⟩

/-- A word on the command port. The eight specific rows have the wider mask and stand for every legal frame, so the
generic row is never the answer (log entry 2). -/
def decodeCommandFrame (w : Nat) : Except DecodeError Instr :=
  if 2 ^ 24 ≤ w then .error .tooWide
  else if isCommandFrame w then .ok (cmdOf (channelBits w))
  else .error .notACommandFrame

/-- A word on the response port: every 24-bit value is legal (R62). -/
def decodeResponseFrame (w : Nat) : Except DecodeError Instr :=
  if 2 ^ 24 ≤ w then .error .tooWide else .ok (.rspFrame (Frame.ofWord (BitVec.ofNat 24 w)))

/-- A request word: `READ_CH` when `req_op` (bit `CH_W`) is 0, `READ_ALL` when it is 1 (R55, R62). -/
def decodeRequest (chW w : Nat) : Except DecodeError Instr :=
  if 2 ^ (1 + chW) ≤ w then .error .tooWide
  else if w < 2 ^ chW then .ok (.readCh w)
  else .ok (.readAll (w - 2 ^ chW))

/-- A response status: the codes of R56. -/
def decodeStatus (w : Nat) : Except DecodeError Instr :=
  if 4 ≤ w then .error .tooWide
  else if w = 0 then .ok .ok
  else if w = 1 then .ok .transferFailed
  else if w = 2 then .ok .invalidChannel
  else .error .reservedStatus

/-- The instruction a word stands for at a port of a block of width `chW`. -/
def decode (chW : Nat) (f : Format) (w : Nat) : Except DecodeError Instr :=
  match f with
  | .commandFrame => decodeCommandFrame w
  | .responseFrame => decodeResponseFrame w
  | .requestWord => decodeRequest chW w
  | .responseStatus => decodeStatus w

/-- The format of a table word given by its width alone, at the table's `CH_W`. 24 bits: a Command Frame where it is one, else a
Response Frame. 5 bits, or a whole byte: a request word, the only such word the block itself reads. 2 bits: a status (log
entry 2). -/
def tableFormat (nbits w : Nat) : Option Format :=
  if nbits = 24 then (if isCommandFrame w then some .commandFrame else some .responseFrame)
  else if nbits = 1 + Config.chWDefault ∨ nbits = 8 then some .requestWord
  else if nbits = 2 then some .responseStatus
  else none

/-- The instruction the decoder reads from a table word of `nbits` bits, at the table's `CH_W`. -/
def decodeTableWord (nbits w : Nat) : Option Instr :=
  match tableFormat nbits w with
  | none => none
  | some f =>
    match decode Config.chWDefault f w with
    | .ok i => some i
    | .error _ => none

/-- The Command Frame of a channel as a number, field by field from the table of R47: `zero0`, `start`, `sgl`, `chan`,
`zero1`, `pad`. -/
def commandWord (chan : Nat) : Nat :=
  0 * 2 ^ 17 + 1 * 2 ^ 16 + 1 * 2 ^ 15 + chan * 2 ^ 12 + 0 * 2 ^ 8 + 0

/-- The word of an instruction in a block of width `chW` (30_encoding.md R47, R52, R55, R56). -/
def encode (chW : Nat) (i : Instr) : Nat :=
  match i with
  | .cmdSgl chan => commandWord chan
  | .cmdSgl0 => 0x018000
  | .cmdSgl1 => 0x019000
  | .cmdSgl2 => 0x01A000
  | .cmdSgl3 => 0x01B000
  | .cmdSgl4 => 0x01C000
  | .cmdSgl5 => 0x01D000
  | .cmdSgl6 => 0x01E000
  | .cmdSgl7 => 0x01F000
  | .rspFrame rx => rx.toWord.toNat
  | .readCh c => c
  | .readAll x => 2 ^ chW + x
  | .ok => 0
  | .transferFailed => 1
  | .invalidChannel => 2

/-- The row the decoder answers for an instruction's word: a generic Command Frame is one of the eight specific ones,
every other instruction is itself (log entry 2). -/
def Instr.specific : Instr → Instr
  | .cmdSgl chan => if h : chan < 8 then cmdOf ⟨chan, h⟩ else .cmdSgl chan
  | .cmdSgl0 => .cmdSgl0
  | .cmdSgl1 => .cmdSgl1
  | .cmdSgl2 => .cmdSgl2
  | .cmdSgl3 => .cmdSgl3
  | .cmdSgl4 => .cmdSgl4
  | .cmdSgl5 => .cmdSgl5
  | .cmdSgl6 => .cmdSgl6
  | .cmdSgl7 => .cmdSgl7
  | .rspFrame rx => .rspFrame rx
  | .readCh c => .readCh c
  | .readAll x => .readAll x
  | .ok => .ok
  | .transferFailed => .transferFailed
  | .invalidChannel => .invalidChannel

end Sys2Proof
end

