-- ==== Sys2Proof/Machine/BusAgent.lean ====
section
/-! DEFINITION. The bus agent's own step: put its next answer at the bus port, "at a time of its own choosing" (R29). -/

namespace Sys2Proof.Machine

/-- The bus agent's turn, in phase WAIT with no answer at the port. Without an answer the block waits without limit (R35). With
one to come, it comes at the agent's first turn: the spec leaves that time open, and the model's choice stands for every
finite wait (log entry 27). -/
def busTurn (s : State) : State :=
  let s := s.quiet
  match s.answers with
  | [] => s
  | a :: rest => { s with xend := some a, answers := rest }

end Sys2Proof.Machine
end

