-- ==== Sys2Proof/Machine/PollLoop.lean ====
section
/-! DEFINITION. The host agent's own steps (60_exceptions.md section 4, 70_reset_and_hazards.md section 2). The host acts when
the block is idle and nothing stands at the request port: "the host waits while the block works" (R12). -/

namespace Sys2Proof.Machine

/-- The boot step after this one; after `connect` the host enters its loop (R121). -/
def BootStep.after : BootStep → HostMode
  | .busLibraryInit => .booting .portOpen
  | .portOpen => .booting .speedLimit
  | .speedLimit => .booting .connect
  | .connect => .running

/-- R114: the bus connection is there from the end of the boot to the end of the process, whichever way it ends. -/
def HostMode.session : HostMode → Session
  | .booting _ => .acquiring
  | .running => .connected
  | .terminated _ => .released

/-- The request word of a tick: READ_ALL (R101), its ignored bits 0 (P2 of 95_test_vectors.md, `10000`). -/
def tickWord (chW : Nat) : ReqWord := 2 ^ chW

/-- The host ends with a fatal status: an error message, then termination (R104, R109, R122). -/
def HostAgent.fatal (h : HostAgent) : HostAgent :=
  { h with mode := .terminated .fatal, console := h.console ++ [.errorMessage] }

/-- The next boot step ends, well or not (R121, R122). One boot step is one step of the model (log entry 29). -/
def HostAgent.bootStep (b : BootStep) (h : HostAgent) : HostAgent :=
  match h.bootResults with
  | [] => h
  | true :: rest => { h with mode := b.after, bootResults := rest }
  | false :: rest => { h with bootResults := rest }.fatal

/-- One event of the host in its loop (R100 to R105): the event is taken and acted on. -/
def hostEvent (e : HostEvent) (rest : List HostEvent) (s : State) : State :=
  let h := { s.host with events := rest }
  match e with
  | .request w => { s with req := some w, host := h }
  | .tick => { s with req := some (tickWord s.chW), host := { h with polling := true } }
  | .interrupt => { s with host := { h with mode := .terminated .normal, console := h.console ++ [.exitNotice] } }
  | .rst => { s with rst := true, host := h }

/-- The host's turn. A terminated host issues nothing further (R104); a host with nothing to do waits. A booting host takes no
event, the interrupt signal included: the spec gives the host's transitions in state Running only, and the model's choice
is that the event stays pending (log entry 28). -/
def hostTurn (s : State) : State :=
  let s := s.quiet
  match s.host.mode with
  | .booting b => { s with host := s.host.bootStep b }
  | .terminated _ => s
  | .running =>
    match s.host.events with
    | [] => s
    | e :: rest => hostEvent e rest s

end Sys2Proof.Machine
end

