-- ==== Sys2Proof/Machine/Fetch.lean ====
section
/-! DEFINITION. What the step does next: the word at the port the phase listens to, or the word the sequencer itself puts out
(R86); and, where there is none, whose turn it is (R12). And the state in which a given word is that next word. -/

namespace Sys2Proof.Machine

/-- The next word, with its port. IDLE: the request held at the port. RUN: the sequencer's own word, the frame of the
current channel (T4) or the status INVALID_CHANNEL (T3). WAIT: the bytes at the bus port (T5 to T7), or the status
TRANSFER_FAILED that a failure brings (T8). -/
def State.fetch (s : State) : Except Fault (Option (Format × Nat)) :=
  match s.phase with
  | .idle => .ok (s.req.map fun w => (.requestWord, w))
  | .run =>
    match s.cur with
    | .error f => .error f
    | .ok (.legal c) => .ok (some (.commandFrame, (enc c).toWord.toNat))
    | .ok .outOfRange => .ok (some (.responseStatus, Status.invalidChannel.code.toNat))
  | .wait =>
    match s.xend with
    | none => .ok none
    | some (.ok r) => .ok (some (.responseFrame, r.toWord.toNat))
    | some .fail => .ok (some (.responseStatus, Status.transferFailed.code.toNat))

/-- The turn of an agent outside the block, where the block has nothing to do (R12). -/
def agentTurn (s : State) : State :=
  match s.phase with
  | .idle => hostTurn s
  | .run => s.quiet
  | .wait => busTurn s

/-- `rst` asserted (R117, R119): in IDLE and RUN the block goes to its reset state with no response; with a transfer in
flight the model gives no meaning (log entry 11). -/
def resetTurn (s : State) : Host.Outcome State Fault Refusal :=
  match s.phase with
  | .idle => .next (resetBlock s)
  | .run => .next (resetBlock s)
  | .wait => .refused .resetInFlight

/-- XEND happens in WAIT only (R86): an answer at the port in another phase. -/
def State.strayXend (s : State) : Bool := decide (s.phase ≠ .wait) && s.xend.isSome

/-- No operation in progress, the ports empty, `rst` not asserted. -/
def State.placeIdle (s : State) : State :=
  { s with
    phase := .idle, op := none, ch := none, k := none, acc := noSamples, tx := none, rx := none,
    req := none, xend := none, rst := false }

/-- A READ_CH accepted, its channel not started. -/
def State.placeRun (c : Nat) (s : State) : State :=
  { s.placeIdle with phase := .run, op := some .readCh, ch := some c }

/-- The transfer of a READ_CH of channel 0 in flight, with an answer at the bus port. -/
def State.placeWait (a : XEnd) (s : State) : State :=
  { s.placeIdle with
    phase := .wait, op := some .readCh, ch := some 0, tx := some (enc 0), xend := some a }

/-- The state in which a word of a format is the next one (log entry 20). -/
def State.place (f : Format) (w : Nat) (s : State) : State :=
  match f with
  | .requestWord => { s.placeIdle with req := some w }
  | .commandFrame => s.placeRun (channelBits w).val
  | .responseFrame => s.placeWait (.ok (Frame.ofWord (BitVec.ofNat 24 w)))
  | .responseStatus =>
    if w = 2 then s.placeRun 8
    else if w = 1 then s.placeWait .fail
    else s.placeWait (.ok { b0 := 0, b1 := 0, b2 := 0 })

end Sys2Proof.Machine
end

