-- ==== Sys2Proof/Machine/Step.lean ====
section
/-! DEFINITION. One step of the system: reset, or the next word's transition, or the turn of an agent outside the block. -/

namespace Sys2Proof.Machine

/-- One step. With `rst` asserted: the reset. Else the transition of the next word (R86), or, where there is none, the turn
of the host or of the bus agent. -/
def step (s : State) : Host.Outcome State Fault Refusal :=
  if s.rst then resetTurn s
  else if s.strayXend then .refused .strayXend
  else
    match s.fetch with
    | .error f => .fault f
    | .ok none => .next (agentTurn s)
    | .ok (some (f, w)) =>
      match decode s.chW f w with
      | .error _ => .refused .undecodable
      | .ok i => exec i s

/-- The state in which the very next step runs the instruction of the table word `w` (log entry 20): the request port
holds it, or an operation is in the phase in which that word passes its port. -/
def State.withFetchWord (s : State) (nbits w : Nat) : State :=
  match tableFormat nbits w with
  | none => s
  | some f => s.place f w

end Sys2Proof.Machine
end

