-- ==== Sys2Proof/Machine/Device.lean ====
section
/-! DEFINITION. The reference device of R72: a test fixture for the round-trip property, not a description of the MCP3008. -/

namespace Sys2Proof.Machine

/-- The channel a Command Frame asks for, where it is one of the 8 legal frames; `tx[1][6:4]` (R66, R72). -/
def commandChannel? (tx : Frame) : Option Channel :=
  let c : Channel := ⟨(tx.b1.toNat / 16) % 8, Nat.mod_lt _ (by decide)⟩
  if tx = enc c then some c else none

/-- The bytes `[j0, (j1 << 2) | v[9:8], v[7:0]]` (R72). -/
def answerFrame (v : Sample) (j0 : Byte) (j1 : BitVec 6) : Frame :=
  { b0 := j0, b1 := j1 ++ v.extractLsb' 8 2, b2 := v.extractLsb' 0 8 }

/-- The answer to a Command Frame of the device configured with `v`, with junk `j0`, `j1` in the ignored bits; "given any
other tx its answer is not defined" (R72), so none (log entry 23). -/
def refDevice (v : Vector Sample 8) (j0 : Byte) (j1 : BitVec 6) (tx : Frame) : Option Frame :=
  (commandChannel? tx).map fun c => answerFrame v[c] j0 j1

end Sys2Proof.Machine
end

