-- ==== Sys2Proof/Safety.lean ====
section
/-! DEFINITION. What counts as a sound state and a safe run: the invariant that every step keeps, the record of transfers, the
fairness parameter BUS_LIVE, and the comparisons of states that independence claims are stated in. -/

namespace Sys2Proof.Machine

/-- The entries of the Reading Set below `k` hold a Sample and the others hold none (R19, R26). -/
def Collected (k : Channel) (acc : Vector (Option Sample) 8) : Prop :=
  ∀ i : Channel, acc[i].isSome = decide (i < k)

/-- No transient element holds a value (R26, R118). -/
def State.Empty (s : State) : Prop :=
  s.op = none ∧ s.ch = none ∧ s.k = none ∧ s.acc = noSamples ∧ s.tx = none ∧ s.rx = none

/-- Which elements hold a value in each phase (R15 to R21, R26): none in IDLE; of a READ_CH its `ch`, and in WAIT the frame
in flight; of a READ_ALL its `k` and the Samples below it, and in WAIT the frame in flight. -/
def State.Live (s : State) : Prop :=
  match s.phase, s.op with
  | .idle, _ => s.Empty
  | .run, none => False
  | .wait, none => False
  | .run, some .readCh => s.ch.isSome ∧ s.k = none ∧ s.acc = noSamples ∧ s.tx = none ∧ s.rx = none
  | .run, some .readAll => s.ch = none ∧ ∃ k, s.k = some k ∧ Collected k s.acc
  | .wait, some .readCh =>
    s.k = none ∧ s.acc = noSamples ∧ s.rx = none ∧
      ∃ c : Channel, s.ch = some c.val ∧ s.tx = some (enc c)
  | .wait, some .readAll => s.ch = none ∧ ∃ k, s.k = some k ∧ Collected k s.acc ∧ s.tx = some (enc k)

/-- The ports agree with the phase: an answer stands at the bus port in WAIT only; XSTART is the entry to WAIT, RSP the entry
to IDLE (R86). -/
def State.PortsAgree (s : State) : Prop :=
  (s.xend ≠ none → s.phase = .wait) ∧
  (s.xstart ≠ none → s.phase = .wait ∧ s.xstart = s.tx) ∧
  (s.rsp ≠ none → s.phase = .idle)

/-- Whether a transfer is in flight after the events of a record, newest first; none where XSTART and XEND do not
alternate (R42). -/
def inFlight : List Event → Option Bool
  | [] => some false
  | .xstart _ :: h => if inFlight h = some false then some true else none
  | .xend _ :: h => if inFlight h = some true then some false else none
  | .req _ :: h => inFlight h
  | .rsp _ :: h => inFlight h
  | .rst :: h => inFlight h

/-- The record alternates, and says that a transfer is in flight in WAIT only (R23, R42). -/
def State.RecordAgrees (s : State) : Prop := inFlight s.history = some (decide (s.phase = .wait))

/-- The frames started since the last request or reset in a record, newest first. -/
def startedFrames : List Event → List Frame
  | [] => []
  | .xstart f :: h => f :: startedFrames h
  | .req _ :: _ => []
  | .rst :: _ => []
  | .xend _ :: h => startedFrames h
  | .rsp _ :: h => startedFrames h

/-- `ENC(0)` to `ENC(n-1)`, newest first. -/
def framesBelow (n : Nat) : List Frame := (((List.finRange 8).take n).map enc).reverse

/-- The operation in progress has started the frames of channels 0 to `k` (READ_ALL) or of its one channel (READ_CH), in
order, with no gap and no repeat (R42, R78, R84). -/
def State.OrderKept (s : State) : Prop :=
  match s.phase, s.op with
  | .idle, _ => True
  | .run, none => True
  | .wait, none => True
  | .run, some .readCh => startedFrames s.history = []
  | .run, some .readAll => ∀ k, s.k = some k → startedFrames s.history = framesBelow k.val
  | .wait, some .readCh => ∀ c : Channel, s.ch = some c.val → startedFrames s.history = [enc c]
  | .wait, some .readAll => ∀ k, s.k = some k → startedFrames s.history = framesBelow (k.val + 1)

/-- Only the 8 frames of R51 were ever started. -/
def State.FramesLegal (s : State) : Prop := ∀ f, Event.xstart f ∈ s.history → ∃ c, f = enc c

/-- A host inside a tick is running and waits for its READ_ALL (R101, R105); before the boot has ended no request reaches
the block (R121, R122). -/
def State.HostAgrees (s : State) : Prop :=
  (s.host.polling = true →
    s.host.mode = .running ∧ (s.phase = .idle → s.req = some (tickWord s.chW)) ∧ (s.phase ≠ .idle → s.op = some .readAll)) ∧
  (∀ b, s.host.mode = .booting b → s.phase = .idle ∧ s.req = none)

/-- The width is one that R7 allows, and what holds bits of a request holds as many as the width gives: the word at the port,
the words that the host will hold there, and `ch` (R17, R55, R60). -/
def State.WidthsAgree (s : State) : Prop :=
  Config.chWMin ≤ s.chW ∧ (∀ w, s.req = some w → w < 2 ^ (1 + s.chW)) ∧
    (∀ w, HostEvent.request w ∈ s.host.events → w < 2 ^ (1 + s.chW)) ∧ ∀ c, s.ch = some c → c < 2 ^ s.chW

/-- The invariant of the system. -/
structure State.Inv (s : State) : Prop where
  widths : s.WidthsAgree
  live : s.Live
  ports : s.PortsAgree
  recorded : s.RecordAgrees
  ordered : s.OrderKept
  frames : s.FramesLegal
  host : s.HostAgrees

/-- The one move the contract of the spec leaves out: reset with a transfer in flight (R119, D13). -/
def State.InContract (s : State) : Prop := s.rst = true → s.phase ≠ .wait

/-- `BUS_LIVE` for the next `n` transfers: the bus agent has an answer for each (R35). A premise about the bus agent, not
assumed by the model (log entry 10). -/
def State.BusLive (n : Nat) (s : State) : Prop := n ≤ s.answers.length

/-- No operation, nothing at the ports, nothing asserted: what a request finds. -/
structure State.Ready (s : State) : Prop where
  phase : s.phase = .idle
  empty : s.Empty
  xend : s.xend = none
  rst : s.rst = false

/-- The transition table of R86, row by row: the block in state `s`, with the events of the row at its ports, goes to the
state given. `enc` is R63, `dec` R67, and `respond` the primitive of R10: the RSP event, then IDLE with no element
holding a value. -/
inductive Transition (s : State) : State → Prop where
  /-- IDLE, REQ READ_CH c. -/
  | t1 (c : Nat) (hc : c < 2 ^ s.chW) (hp : s.phase = .idle) (hq : s.req = some c) :
    Transition s { s with
      op := some .readCh, ch := some c, phase := .run, req := none, xstart := none, rsp := none,
      history := .req (.readCh c) :: s.history }
  /-- IDLE, REQ READ_ALL, whatever the ignored bits. -/
  | t2 (x : Nat) (hx : x < 2 ^ s.chW) (hp : s.phase = .idle) (hq : s.req = some (2 ^ s.chW + x)) :
    Transition s { s with
      op := some .readAll, k := some 0, phase := .run, req := none, xstart := none, rsp := none,
      history := .req .readAll :: s.history }
  /-- RUN, READ_CH and `ch > 7`. -/
  | t3 (c : Nat) (hp : s.phase = .run) (ho : s.op = some .readCh) (hc : s.ch = some c) (h7 : 7 < c) :
    Transition s (respond .invalidChannel s)
  /-- RUN, not the condition of T3: the frame of the current channel goes out. -/
  | t4 (c : Channel) (hp : s.phase = .run)
    (hc : (s.op = some .readCh ∧ s.ch = some c.val) ∨ (s.op = some .readAll ∧ s.k = some c)) :
    Transition s { s with
      tx := some (enc c), phase := .wait, xstart := some (enc c), rsp := none,
      history := .xstart (enc c) :: s.history }
  /-- WAIT, XEND Ok, READ_CH. -/
  | t5 (r : Frame) (hp : s.phase = .wait) (hx : s.xend = some (.ok r)) (ho : s.op = some .readCh) :
    Transition s (respond (.sample (dec r)) { s with
      rx := some r, xend := none, history := .xend (.ok r) :: s.history })
  /-- WAIT, XEND Ok, READ_ALL and `k < 7`. -/
  | t6 (r : Frame) (k : Channel) (hp : s.phase = .wait) (hx : s.xend = some (.ok r)) (ho : s.op = some .readAll)
    (hk : s.k = some k) (h7 : k.val < 7) :
    Transition s { s with
      rx := some r, acc := s.acc.set k.val (some (dec r)), k := some (k + 1), phase := .run, xend := none,
      xstart := none, rsp := none, history := .xend (.ok r) :: s.history }
  /-- WAIT, XEND Ok, READ_ALL and `k = 7`: the eight Samples are delivered. -/
  | t7 (r : Frame) (v : Vector Sample 8) (hp : s.phase = .wait) (hx : s.xend = some (.ok r))
    (ho : s.op = some .readAll) (hk : s.k = some 7) (hv : s.acc.set 7 (some (dec r)) = v.map some) :
    Transition s (respond (.readingSet v) { s with
      rx := some r, acc := s.acc.set 7 (some (dec r)), xend := none, history := .xend (.ok r) :: s.history })
  /-- WAIT, XEND Fail, either operation. -/
  | t8 (hp : s.phase = .wait) (hx : s.xend = some .fail) :
    Transition s (respond .transferFailed { s with xend := none, history := .xend .fail :: s.history })

/-- The state without what no rule lets the block depend on: the record, and what the host has printed and noted. -/
def State.forgetPast (s : State) : State :=
  { s with history := [], host := { s.host with console := [], goneWrong := false } }

/-- An answer without its bytes. -/
def XEnd.forgetBytes : XEnd → XEnd
  | .ok _ => .ok { b0 := 0, b1 := 0, b2 := 0 }
  | .fail => .fail

/-- A response without its Samples. -/
def Response.forgetBytes : Response → Response
  | .sample _ => .sample 0
  | .readingSet _ => .readingSet (Vector.replicate 8 0)
  | .transferFailed => .transferFailed
  | .invalidChannel => .invalidChannel

/-- The state without the bytes of the bus agent's answers, wherever they went (R45): at the bus port and still to come, in
`rx`, in `acc`, in the response; and without the record and the printed lines. `phase`, `op`, `ch`, `k`, `tx` and the frame
started stay, and so does which entries of `acc` hold a value. -/
def State.forgetBytes (s : State) : State :=
  { s with
    acc := s.acc.map (Option.map fun _ => 0), rx := none,
    xend := s.xend.map XEnd.forgetBytes, answers := s.answers.map XEnd.forgetBytes,
    rsp := s.rsp.map Response.forgetBytes, history := [], host := { s.host with console := [] } }

/-- The state without the frames `tx` and `rx`. -/
def State.forgetFrames (s : State) : State := { s with tx := none, rx := none }

/-- The state without `rx` and the record, which name the bytes received. -/
def State.forgetReceived (s : State) : State := { s with rx := none, history := [] }

/-- An outcome with a view of its next state. -/
def viewNext {α : Type} (f : State → α) : Host.Outcome State Fault Refusal → Host.Outcome α Fault Refusal
  | .next s => .next (f s)
  | .fault r => .fault r
  | .refused r => .refused r

/-- `n` steps, stopping at the first fault or refusal. -/
def steps : Nat → State → Host.Outcome State Fault Refusal
  | 0, s => .next s
  | n + 1, s =>
    match step s with
    | .next t => steps n t
    | .fault r => .fault r
    | .refused r => .refused r

/-- The events of successful transfers, in time order, from channel `n` on: XSTART of each channel's frame and XEND with the
bytes given (R42). -/
def transferEvents (n : Nat) : List Frame → List Event
  | [] => []
  | r :: rs => .xstart (enc (Fin.ofNat 8 n)) :: .xend (.ok r) :: transferEvents (n + 1) rs

/-- How many boot steps are still to come, this one counted (R121). -/
def BootStep.left : BootStep → Nat
  | .busLibraryInit => 4
  | .portOpen => 3
  | .speedLimit => 2
  | .connect => 1

end Sys2Proof.Machine
end

