-- ==== Sys2Proof/Certificates/Slice0/Obligations.lean ====
section
/-! DEFINITION. The statements for the provers. Each docstring names the rule of spec/ it formalises, and the log entry where a
clause is the model's choice. -/

section

open Sys2Proof Sys2Proof.Machine

/-! Reset -/

/-- R27: the table of values after reset, at every width of `ch`. Phase IDLE, no element holds a value, `req_ready` 1, no
event at an output. `State.reset` is that state at the default width of R7. -/
def Obligations.ResetValuesOfTheTable : Prop :=
  State.reset = State.resetAt 4 ∧
  ∀ n : Nat, (State.resetAt n).phase = .idle ∧ (State.resetAt n).op = none ∧ (State.resetAt n).ch = none ∧
    (State.resetAt n).k = none ∧ (∀ i : Channel, (State.resetAt n).acc[i] = none) ∧ (State.resetAt n).tx = none ∧
    (State.resetAt n).rx = none ∧ (State.resetAt n).reqReady = true ∧ (State.resetAt n).xstart = none ∧
    (State.resetAt n).rsp = none

/-- R118: after reset IDLE, no element with a value, no event pending in either direction, ready for a request; and the state
after any response has the same block: the two are indistinguishable. -/
def Obligations.ResetAndEndOfOperationLookAlike : Prop :=
  (∀ n : Nat, (State.resetAt n).phase = .idle ∧ (State.resetAt n).Empty ∧ (State.resetAt n).req = none ∧
    (State.resetAt n).xend = none ∧ (State.resetAt n).xstart = none ∧ (State.resetAt n).rsp = none ∧
    (State.resetAt n).reqReady = true) ∧
  ∀ s t : State, step s = .next t → t.rsp ≠ none →
    t.phase = (State.resetAt t.chW).phase ∧ t.op = (State.resetAt t.chW).op ∧ t.ch = (State.resetAt t.chW).ch ∧
      t.k = (State.resetAt t.chW).k ∧ t.acc = (State.resetAt t.chW).acc ∧ t.tx = (State.resetAt t.chW).tx ∧
      t.rx = (State.resetAt t.chW).rx ∧ t.xstart = (State.resetAt t.chW).xstart ∧
      t.reqReady = (State.resetAt t.chW).reqReady

/-- The reset state meets the invariant, at every width that R7 allows. Its empty lists and its running host are the model's
choice (log entries 9, 14, 16). -/
def Obligations.ResetMeetsTheInvariant : Prop := State.reset.Inv ∧ ∀ n : Nat, 3 ≤ n → (State.resetAt n).Inv

/-- R117, R119: with `rst` asserted in IDLE or RUN the block goes to its reset state, with no response. That the assertion
lasts one step and withdraws a held request is the model's choice (log entry 11), and so is the refusal of a reset with a
transfer in flight, which the spec puts outside its contract. -/
def Obligations.ResetDiscardsTheOperation : Prop :=
  ∀ s : State, s.rst = true →
    (s.phase ≠ .wait → step s = .next { State.resetAt s.chW with
      answers := s.answers, host := { s.host with polling := false }, history := .rst :: s.history }) ∧
    (s.phase = .wait → step s = .refused .resetInFlight)

/-! The codec -/

/-- R63, R64: ENC byte by byte, with the equivalent forms of byte 1 and the worked example. -/
def Obligations.EncBuildsTheCommandFrame : Prop :=
  (∀ c : Channel,
    (enc c).b0 = 0x01 ∧ (enc c).b1 = BitVec.ofNat 8 (8 + c.val) <<< 4 ∧ (enc c).b2 = 0x00 ∧
      (enc c).b1.toNat = 128 + 16 * c.val ∧ (enc c).b1 = 0x80 ||| (BitVec.ofNat 8 c.val <<< 4) ∧
      (enc c).b1 = 1#1 ++ BitVec.ofNat 3 c.val ++ 0#4) ∧
  enc 3 = { b0 := 0x01, b1 := 0xB0, b2 := 0x00 }

/-- R66: ENC is injective, the channel stands in frame bits 14:12, bit 7 of byte 1 is 1 and its low nibble 0. -/
def Obligations.EncKeepsTheChannel : Prop :=
  ∀ c : Channel,
    (enc c).b0 = 1 ∧ (enc c).b1 = BitVec.ofNat 8 (8 + c.val) <<< 4 ∧ (enc c).b2 = 0 ∧
      (∀ d : Channel, enc c = enc d → c = d) ∧ ((enc c).b1.extractLsb' 4 3).toNat = c.val ∧
      ((enc c).toWord.extractLsb' 12 3).toNat = c.val ∧ (enc c).b1.getLsbD 7 = true ∧
      (enc c).b1.extractLsb' 0 4 = 0

/-- R51: the eight frames of the table, and no other value ever stands in an XSTART event. -/
def Obligations.OnlyTheEightFramesAreSent : Prop :=
  ((List.finRange 8).map fun c => (enc c).toWord) =
    [0x018000, 0x019000, 0x01A000, 0x01B000, 0x01C000, 0x01D000, 0x01E000, 0x01F000] ∧
  ∀ s t : State, ∀ f : Frame, step s = .next t → t.xstart = some f → ∃ c : Channel, f = enc c

/-- R67, R68: DEC by the formula in 16 bits, as a concatenation, and in closed form; with the document's example. -/
def Obligations.DecIsTheLowTenBits : Prop :=
  (∀ rx : Frame,
    dec rx = (((rx.b1.setWidth 16 <<< 8) ||| rx.b2.setWidth 16) &&& (0x03FF : BitVec 16)).extractLsb' 0 10 ∧
      dec rx = rx.b1.extractLsb' 0 2 ++ rx.b2 ∧ (dec rx).toNat = 256 * (rx.b1.toNat % 4) + rx.b2.toNat) ∧
  dec { b0 := 0x00, b1 := 0x01, b2 := 0xFF } = 511

/-- R69: DEC stays in 0 to 1023, reaches both ends as the rule shows, and every value has 64 pairs and 16 384 frames. -/
def Obligations.DecRangeAndPreimages : Prop :=
  (∀ rx : Frame, (dec rx).toNat ≤ 1023) ∧
  (∀ x : Byte, dec ⟨x, 0x00, 0x00⟩ = 0 ∧ dec ⟨x, 0x03, 0xFF⟩ = 1023 ∧ dec ⟨x, 0xFF, 0xFF⟩ = 1023 ∧
    dec ⟨x, 0xFC, 0x00⟩ = 0) ∧
  ∀ v : Sample,
    (∀ r0 : Byte, (Finset.univ.filter fun p : Fin 256 × Fin 256 =>
      dec ⟨r0, BitVec.ofFin p.1, BitVec.ofFin p.2⟩ = v).card = 64) ∧
    (Finset.univ.filter fun p : Fin 256 × Fin 256 × Fin 256 =>
      dec ⟨BitVec.ofFin p.1, BitVec.ofFin p.2.1, BitVec.ofFin p.2.2⟩ = v).card = 16384

/-- R70: DEC reads bits 1:0 of byte 1 and byte 2, and nothing else. -/
def Obligations.DecIgnoresTheOtherBits : Prop :=
  ∀ a b : Frame, a.b1.extractLsb' 0 2 = b.b1.extractLsb' 0 2 → a.b2 = b.b2 → dec a = dec b

/-- R54: two Response Frames that differ in the 14 ignored bits only have the same effect, apart from `rx` itself and the
record, which name the bytes. -/
def Obligations.IgnoredBitsHaveNoEffect : Prop :=
  ∀ (a b : Frame) (s : State), a.b1.extractLsb' 0 2 = b.b1.extractLsb' 0 2 → a.b2 = b.b2 →
    viewNext State.forgetReceived (exec (.rspFrame a) s) = viewNext State.forgetReceived (exec (.rspFrame b) s)

/-- R72: the reference device answers each of the 8 legal frames, whatever its junk, with bytes that decode to the value it
was configured with, in the form the rule gives. -/
def Obligations.ReferenceDeviceRoundTrip : Prop :=
  ∀ (v : Vector Sample 8) (j0 : Byte) (j1 : BitVec 6) (c : Channel),
    ∃ r : Frame, refDevice v j0 j1 (enc c) = some r ∧ dec r = v[c] ∧ r.b0 = j0 ∧
      r.b1 = j1 ++ v[c].extractLsb' 8 2 ∧ r.b2 = v[c].extractLsb' 0 8

/-! Encodings -/

/-- At every width of a request, decoding the word of a well-formed instruction gives it back; a generic Command Frame comes back
as its channel's own row (log entry 2). -/
def Obligations.DecodeOfEncode : Prop :=
  ∀ (n : Nat) (i : Instr), i.wellFormed n = true → decode n i.format (encode n i) = .ok i.specific

/-- What the decoder accepts is the word of the instruction it answers, well-formed and of that port. That the answer is a
specific row, never the generic Command Frame, is the model's choice (log entry 2). -/
def Obligations.EncodeOfDecode : Prop :=
  ∀ (n : Nat) (f : Format) (w : Nat) (i : Instr), decode n f w = .ok i →
    i.format = f ∧ i.wellFormed n = true ∧ i.specific = i ∧ encode n i = w

/-- R62: which words each port's decoder accepts and what it reads from them, at every width of a request; and the opcode
table's widths. Status code 3 is rejected by name (R59). Two clauses rest on the model's choices: a Command Frame is answered
as the specific row of its channel, not as the generic row (log entry 2); a number above the width of a request is rejected
by name (log entry 3). -/
def Obligations.DecoderFollowsTheTable : Prop :=
  ∀ n : Nat,
  (∀ w : Nat, w < 2 ^ 24 → w &&& 0xFF8FFF = 0x018000 →
    ∃ c : Channel, c.val = w / 2 ^ 12 % 8 ∧ w = (enc c).toWord.toNat ∧ decode n .commandFrame w = .ok (cmdOf c)) ∧
  (∀ w : Nat, w < 2 ^ 24 → w &&& 0xFF8FFF ≠ 0x018000 → decode n .commandFrame w = .error .notACommandFrame) ∧
  (∀ w : Nat, w < 2 ^ 24 →
    ∃ r : Frame, decode n .responseFrame w = .ok (.rspFrame r) ∧ r.toWord.toNat = w ∧ (dec r).toNat = w % 2 ^ 10) ∧
  (∀ w : Nat, w < 2 ^ n → decode n .requestWord w = .ok (.readCh w)) ∧
  (∀ w : Nat, 2 ^ n ≤ w → w < 2 ^ (n + 1) → decode n .requestWord w = .ok (.readAll (w - 2 ^ n))) ∧
  (∀ w : Nat, 2 ^ (n + 1) ≤ w → decode n .requestWord w = .error .tooWide) ∧
  decode n .responseStatus 0 = .ok .ok ∧ decode n .responseStatus 1 = .ok .transferFailed ∧
  decode n .responseStatus 2 = .ok .invalidChannel ∧ decode n .responseStatus 3 = .error .reservedStatus

/-- A few words written out from the spec's encodings (R51, R52, R55, R56); requests at the table's `CH_W` 4, and one at 3.
(The Command Frame is answered as its specific row: log entry 2.) -/
def Obligations.WordsOfTheSpecDecode : Prop :=
  decode 4 .commandFrame 0b000000011011000000000000 = .ok .cmdSgl3 ∧
  decode 4 .responseFrame 0b000000000000000111111111 = .ok (.rspFrame { b0 := 0x00, b1 := 0x01, b2 := 0xFF }) ∧
  decode 4 .requestWord 0b00011 = .ok (.readCh 3) ∧ decode 4 .requestWord 0b10000 = .ok (.readAll 0) ∧
  decode 4 .requestWord 0b11010 = .ok (.readAll 10) ∧ decode 3 .requestWord 0b1010 = .ok (.readAll 2) ∧
  decode 4 .responseStatus 0b10 = .ok .invalidChannel

/-- R56: the status codes, none of them 3; a payload with status OK only and of the operation's kind only; the Sample of
channel i in bits 10*i+9 : 10*i of `rsp_set`. -/
def Obligations.ResponseWordFields : Prop :=
  Status.ok.code = 0 ∧ Status.transferFailed.code = 1 ∧ Status.invalidChannel.code = 2 ∧
  (∀ x : Status, x.code ≠ 3) ∧
  (∀ v : Sample, (Response.sample v).status = .ok ∧ (Response.sample v).rspSample = some v ∧
    (Response.sample v).rspSet = none) ∧
  (∀ v : Vector Sample 8, (Response.readingSet v).status = .ok ∧ (Response.readingSet v).rspSample = none ∧
    ∃ p, (Response.readingSet v).rspSet = some p ∧ ∀ i : Channel, p.extractLsb' (10 * i.val) 10 = v[i]) ∧
  ∀ r : Response, r.status ≠ .ok → r.rspSample = none ∧ r.rspSet = none

/-! What each instruction does: the whole next state, so also what it leaves unchanged -/

/-- READ_CH (R75, T1 of R86), for every `req_ch` of `CH_W` bits: in IDLE the request is accepted. While the block is busy or
in reset it is held at the port (R117, R125; the form of holding is the model's choice, log entry 8), and nothing else
changes. A number of more bits is no request word; that the meaning is then refused by name is the model's choice (log entry
3). The record of events and the outputs of one step are the model's (log entries 7, 14). -/
def Obligations.ReadChIsAcceptedOrHeld : Prop :=
  ∀ (c : Nat) (s : State),
    (c < 2 ^ s.chW → s.phase = .idle → s.rst = false → exec (.readCh c) s = .next { s with
      op := some .readCh, ch := some c, phase := .run, req := none, xstart := none, rsp := none,
      history := .req (.readCh c) :: s.history }) ∧
    (c < 2 ^ s.chW → s.phase ≠ .idle ∨ s.rst = true →
      exec (.readCh c) s = .next { s with req := some c, xstart := none, rsp := none }) ∧
    (2 ^ s.chW ≤ c → exec (.readCh c) s = .refused .undecodable)

/-- READ_ALL (R81, T2 of R86), whatever the `CH_W` ignored bits (R55): accepted in IDLE, held otherwise (the form of holding
is the model's choice, log entry 8). A number of more bits is no request word; that the meaning is then refused by name is
the model's choice (log entry 3). The record of events and the outputs of one step are the model's (log entries 7, 14). -/
def Obligations.ReadAllIsAcceptedOrHeld : Prop :=
  ∀ (x : Nat) (s : State),
    (x < 2 ^ s.chW → s.phase = .idle → s.rst = false → exec (.readAll x) s = .next { s with
      op := some .readAll, k := some 0, phase := .run, req := none, xstart := none, rsp := none,
      history := .req .readAll :: s.history }) ∧
    (x < 2 ^ s.chW → s.phase ≠ .idle ∨ s.rst = true →
      exec (.readAll x) s = .next { s with req := some (2 ^ s.chW + x), xstart := none, rsp := none }) ∧
    (2 ^ s.chW ≤ x → exec (.readAll x) s = .refused .undecodable)

/-- CMD_SGL and CMD_SGL0 to CMD_SGL7 (R73, T4 of R86): in RUN, of the current channel, the frame of R51 goes out. The record
and the outputs of one step are the model's (log entries 7, 14). -/
def Obligations.CommandFrameStartsTheTransfer : Prop :=
  ∀ (c : Channel) (i : Instr) (s : State),
    (i = .cmdSgl c.val ∨
      (i, c) ∈ [(.cmdSgl0, 0), (.cmdSgl1, 1), (.cmdSgl2, 2), (.cmdSgl3, 3), (.cmdSgl4, 4), (.cmdSgl5, 5), (.cmdSgl6, 6),
        (.cmdSgl7, (7 : Channel))]) →
    s.phase = .run → s.rst = false →
    ((s.op = some .readCh ∧ s.ch = some c.val) ∨ (s.op = some .readAll ∧ s.k = some c)) →
    exec i s = .next { s with
      tx := some ⟨0x01, BitVec.ofNat 8 (0x80 + 16 * c.val), 0x00⟩, phase := .wait,
      xstart := some ⟨0x01, BitVec.ofNat 8 (0x80 + 16 * c.val), 0x00⟩, rsp := none,
      history := .xstart ⟨0x01, BitVec.ofNat 8 (0x80 + 16 * c.val), 0x00⟩ :: s.history }

/-- R51, R57, R58: in RUN a Command Frame row of another channel, or any where the index is out of range, is not produced: the
meaning stops by name (log entry 21). The nine rows. -/
def Obligations.OtherFramesAreNotProduced : Prop :=
  ∀ (chan : Nat) (i : Instr) (s : State),
    (i = .cmdSgl chan ∨
      (i, chan) ∈ [(.cmdSgl0, 0), (.cmdSgl1, 1), (.cmdSgl2, 2), (.cmdSgl3, 3), (.cmdSgl4, 4), (.cmdSgl5, 5), (.cmdSgl6, 6),
        (.cmdSgl7, 7)]) →
    s.phase = .run → s.rst = false →
    ((s.op = some .readCh ∧ ∃ c, s.ch = some c ∧ c ≠ chan) ∨
      (s.op = some .readCh ∧ ∃ c, s.ch = some c ∧ 7 < c) ∨
      (s.op = some .readAll ∧ ∃ k, s.k = some k ∧ k.val ≠ chan)) →
    exec i s = .refused .notProduced

/-- RSP_FRAME in a READ_CH (R74, R77, T5 of R86): the operation ends with the decoded Sample. The outputs of one step, the
record and the host's taking of the response are the model's (log entries 7, 14, 25). -/
def Obligations.FrameEndsReadCh : Prop :=
  ∀ (r : Frame) (s : State), s.phase = .wait → s.rst = false → s.op = some .readCh →
    exec (.rspFrame r) s = .next { s with
      phase := .idle, op := none, ch := none, k := none, acc := noSamples, tx := none, rx := none, xend := none,
      xstart := none, rsp := some (.sample (r.b1.extractLsb' 0 2 ++ r.b2)),
      host := s.host.take (.sample (r.b1.extractLsb' 0 2 ++ r.b2)),
      history := .rsp (.sample (r.b1.extractLsb' 0 2 ++ r.b2)) :: .xend (.ok r) :: s.history }

/-- RSP_FRAME in a READ_ALL before channel 7 (R81, T6 of R86): the Sample is stored and the next channel comes. That `tx`
stays, the outputs of one step and the record are the model's (log entries 5, 7, 14). -/
def Obligations.FrameGoesOnWithReadAll : Prop :=
  ∀ (r : Frame) (k : Channel) (s : State), s.phase = .wait → s.rst = false → s.op = some .readAll → s.k = some k →
    k.val < 7 →
    exec (.rspFrame r) s = .next { s with
      rx := some r, acc := s.acc.set k.val (some (r.b1.extractLsb' 0 2 ++ r.b2)), k := some (k + 1), phase := .run,
      xend := none, xstart := none, rsp := none, history := .xend (.ok r) :: s.history }

/-- RSP_FRAME in a READ_ALL at channel 7 (R81, R85, T7 of R86): the eight Samples are delivered, by channel. The outputs of
one step, the record and the host's taking of the response are the model's (log entries 7, 14, 25). -/
def Obligations.FrameEndsReadAll : Prop :=
  ∀ (r : Frame) (v : Vector Sample 8) (s : State), s.phase = .wait → s.rst = false → s.op = some .readAll →
    s.k = some 7 → (∀ i : Channel, i.val < 7 → s.acc[i] = some v[i]) → v[7] = r.b1.extractLsb' 0 2 ++ r.b2 →
    exec (.rspFrame r) s = .next { s with
      phase := .idle, op := none, ch := none, k := none, acc := noSamples, tx := none, rx := none, xend := none,
      xstart := none, rsp := some (.readingSet v), host := s.host.take (.readingSet v),
      history := .rsp (.readingSet v) :: .xend (.ok r) :: s.history }

/-- OK (R22, R56, T5 and T7 of R86): with the bytes of the operation's last transfer at the bus port, the response with status
OK is delivered; with a transfer of READ_ALL still to come it is not. That OK names the transition which delivers it is log
entry 1; that the meaning is then refused by name is log entry 21: both the model's choice. -/
def Obligations.OkRespondsAfterTheLastTransfer : Prop :=
  ∀ (r : Frame) (s : State), s.phase = .wait → s.rst = false → s.xend = some (.ok r) →
    (s.op = some .readCh → exec .ok s = .next { s with
      phase := .idle, op := none, ch := none, k := none, acc := noSamples, tx := none, rx := none, xend := none,
      xstart := none, rsp := some (.sample (r.b1.extractLsb' 0 2 ++ r.b2)),
      host := s.host.take (.sample (r.b1.extractLsb' 0 2 ++ r.b2)),
      history := .rsp (.sample (r.b1.extractLsb' 0 2 ++ r.b2)) :: .xend (.ok r) :: s.history }) ∧
    (∀ v : Vector Sample 8, s.op = some .readAll → s.k = some 7 →
      (∀ i : Channel, i.val < 7 → s.acc[i] = some v[i]) → v[7] = r.b1.extractLsb' 0 2 ++ r.b2 →
      exec .ok s = .next { s with
        phase := .idle, op := none, ch := none, k := none, acc := noSamples, tx := none, rx := none, xend := none,
        xstart := none, rsp := some (.readingSet v), host := s.host.take (.readingSet v),
        history := .rsp (.readingSet v) :: .xend (.ok r) :: s.history }) ∧
    (∀ k : Channel, s.op = some .readAll → s.k = some k → k.val < 7 → exec .ok s = .refused .notProduced)

/-- R90: a failure at the bus port ends the operation; the response has status 1 and no payload; no transfer starts, and no
element holds a value afterwards, the Samples already read among them. -/
def Obligations.TransferFailureEndsTheOperation : Prop :=
  ∀ s : State, s.phase = .wait → s.rst = false → s.xend = some .fail →
    ∃ t, exec .transferFailed s = .next t ∧ step s = .next t ∧ t.phase = .idle ∧ t.Empty ∧ t.xstart = none ∧
      ∃ r, t.rsp = some r ∧ r.status = .transferFailed ∧ r.status.code = 1 ∧ r.rspSample = none ∧ r.rspSet = none

/-- TRANSFER_FAILED (T8 of R86): the whole next state. The record and the host's taking of the response are the model's (log
entries 14, 25). -/
def Obligations.TransferFailedChangesNothingElse : Prop :=
  ∀ s : State, s.phase = .wait → s.rst = false → s.xend = some .fail →
    exec .transferFailed s = .next { s with
      phase := .idle, op := none, ch := none, k := none, acc := noSamples, tx := none, rx := none, xend := none,
      xstart := none, rsp := some .transferFailed, host := s.host.take .transferFailed,
      history := .rsp .transferFailed :: .xend .fail :: s.history }

/-- R76, R91: an index above 7 ends the operation; the response has status 2 and no payload; no frame is built and no transfer
starts. -/
def Obligations.InvalidChannelEndsTheOperation : Prop :=
  ∀ (c : Nat) (s : State), s.phase = .run → s.rst = false → s.op = some .readCh → s.ch = some c → 7 < c →
    ∃ t, exec .invalidChannel s = .next t ∧ (s.xend = none → step s = .next t) ∧ t.phase = .idle ∧ t.Empty ∧
      t.xstart = none ∧ (∀ f, t.history.count (.xstart f) = s.history.count (.xstart f)) ∧
      ∃ r, t.rsp = some r ∧ r.status = .invalidChannel ∧ r.status.code = 2 ∧ r.rspSample = none ∧ r.rspSet = none

/-- INVALID_CHANNEL (T3 of R86): the whole next state. The record and the host's taking of the response are the model's (log
entries 14, 25). -/
def Obligations.InvalidChannelChangesNothingElse : Prop :=
  ∀ (c : Nat) (s : State), s.phase = .run → s.rst = false → s.op = some .readCh → s.ch = some c → 7 < c →
    exec .invalidChannel s = .next { s with
      phase := .idle, op := none, ch := none, k := none, acc := noSamples, tx := none, rx := none,
      xstart := none, rsp := some .invalidChannel, host := s.host.take .invalidChannel,
      history := .rsp .invalidChannel :: s.history }

/-- R86: "An event cannot happen in a phase not listed for it". The meaning of a word whose event the phase does not list
stops by name: a Command Frame or INVALID_CHANNEL outside RUN, a Response Frame, OK or TRANSFER_FAILED outside WAIT. That
such a word is refused, and which word names which transition, are the model's choices (log entries 1, 21). -/
def Obligations.EventsOnlyInTheirPhase : Prop :=
  ∀ (i : Instr) (s : State),
    ((i.format = .commandFrame ∨ i = .invalidChannel) → s.phase ≠ .run → exec i s = .refused .eventNotEnabled) ∧
    ((i.format = .responseFrame ∨ i = .ok ∨ i = .transferFailed) → s.phase ≠ .wait →
      exec i s = .refused .eventNotEnabled)

/-! The step -/

/-- The next word is decoded and its instruction run; nothing is added around it. A word is what passes a port (log entry 1);
an answer outside WAIT is set apart (log entry 13). -/
def Obligations.StepRunsTheDecodedWord : Prop :=
  ∀ (s : State) (f : Format) (w : Nat) (i : Instr), s.rst = false → s.strayXend = false →
    s.fetch = .ok (some (f, w)) → decode s.chW f w = .ok i → step s = exec i s

/-- Which instruction that is: in IDLE the request at the port, in RUN the frame of the current channel or INVALID_CHANNEL, in
WAIT the answer at the bus port. Two clauses are the model's choice: at the last transfer of an operation the response OK names
the same transition as the frame that brings it, T5 or T7 of R86 (log entry 1); a number at the request port that is no
request word of the width stops by name (log entry 3). -/
def Obligations.StepByPhase : Prop :=
  ∀ s : State, s.rst = false →
    (s.phase = .idle → s.xend = none →
      (∀ c : Nat, c < 2 ^ s.chW → s.req = some c → step s = exec (.readCh c) s) ∧
      (∀ x : Nat, x < 2 ^ s.chW → s.req = some (2 ^ s.chW + x) → step s = exec (.readAll x) s) ∧
      (∀ w : Nat, 2 ^ (s.chW + 1) ≤ w → s.req = some w → step s = .refused .undecodable)) ∧
    (s.phase = .run → s.xend = none →
      (∀ c : Nat, s.op = some .readCh → s.ch = some c → 7 < c → step s = exec .invalidChannel s) ∧
      (∀ c : Channel, s.op = some .readCh → s.ch = some c.val → step s = exec (cmdOf c) s) ∧
      (∀ c : Channel, s.op = some .readAll → s.k = some c → step s = exec (cmdOf c) s)) ∧
    (s.phase = .wait →
      (∀ r : Frame, s.xend = some (.ok r) →
        step s = exec (.rspFrame r) s ∧
          (s.op = some .readCh ∨ (s.op = some .readAll ∧ s.k = some 7) → step s = exec .ok s)) ∧
      (s.xend = some .fail → step s = exec .transferFailed s))

/-- R86: every step of the block is a row of the table, and every row whose condition holds is the step the block takes: the
table is the control flow in full. A step that is no row is the turn of the host or of the bus agent, in IDLE with no
request at the port or in WAIT with no answer there. The next states also carry the model's own: the outputs of one step
(log entry 7), the record (log entry 14) and the host's taking of a response (log entry 25). -/
def Obligations.StepsAreTheRowsOfTheTable : Prop :=
  (∀ s t : State, s.rst = false → s.strayXend = false → Transition s t → step s = .next t) ∧
  (∀ s t : State, s.rst = false → step s = .next t →
    Transition s t ∨
      (t = agentTurn s ∧ ((s.phase = .idle ∧ s.req = none) ∨ (s.phase = .wait ∧ s.xend = none)))) ∧
  ∀ s t u : State, Transition s t → Transition s u → t = u

/-- R87: an operation ends at its response and at nothing else. A step that delivers a response starts in RUN or WAIT and ends
in IDLE with no element holding a value; without reset, a step from RUN or WAIT to IDLE delivers a response. -/
def Obligations.OperationsEndAtTheirResponse : Prop :=
  ∀ s t : State, step s = .next t →
    (t.rsp ≠ none → s.phase ≠ .idle ∧ t.phase = .idle ∧ t.Empty) ∧
    (s.phase ≠ .idle → s.rst = false → t.phase = .idle → t.rsp ≠ none)

/-- R125: a request is accepted in IDLE only. `req_ready` is 1 there and 0 in RUN and WAIT; a busy block leaves the request at
the port and no REQ enters the record; an idle block accepts the very request that stands there. (An answer at the bus port
in IDLE is no event of R86: log entry 13.) -/
def Obligations.RequestsAreAcceptedInIdleOnly : Prop :=
  ∀ s : State, s.rst = false →
    (s.reqReady = true ↔ s.phase = .idle) ∧
    (s.phase ≠ .idle → ∀ t : State, step s = .next t →
      t.req = s.req ∧ ∀ r : Request, t.history.count (.req r) = s.history.count (.req r)) ∧
    (s.phase = .idle → s.xend = none →
      (∀ c : Nat, c < 2 ^ s.chW → s.req = some c →
        ∃ t, step s = .next t ∧ t.phase = .run ∧ t.req = none ∧ t.op = some .readCh ∧ t.ch = some c ∧
          t.history = .req (.readCh c) :: s.history) ∧
      (∀ x : Nat, x < 2 ^ s.chW → s.req = some (2 ^ s.chW + x) →
        ∃ t, step s = .next t ∧ t.phase = .run ∧ t.req = none ∧ t.op = some .readAll ∧ t.k = some 0 ∧
          t.history = .req .readAll :: s.history))

/-- R39, R127: a transfer in flight goes on until its XEND. A step from WAIT either waits with the same frame, or takes the answer
at the bus port; then that step starts no transfer and adds at most a response, and after a failure the operation is over, so
the frame is not sent again. -/
def Obligations.TransferIsNotAbandoned : Prop :=
  ∀ s t : State, s.phase = .wait → step s = .next t →
    (t.phase = .wait ∧ t.tx = s.tx ∧ t.op = s.op ∧ t.ch = s.ch ∧ t.k = s.k ∧ t.acc = s.acc ∧ t.history = s.history) ∨
    ∃ a, s.xend = some a ∧ t.xend = none ∧ t.phase ≠ .wait ∧ t.xstart = none ∧
      (a = .fail → t.phase = .idle ∧ t.Empty ∧ t.rsp ≠ none) ∧
      (t.history = .xend a :: s.history ∨ ∃ r, t.history = .rsp r :: .xend a :: s.history)

/-- R35, R128: without an answer the block waits without limit: after any number of steps it is still in WAIT with the same
frame in flight. That the agent's silence is an empty list of answers is the model's form (log entries 9, 27). -/
def Obligations.WaitsWithoutLimit : Prop :=
  ∀ (n : Nat) (s : State), s.phase = .wait → s.rst = false → s.xend = none → s.answers = [] →
    ∃ t, steps n s = .next t ∧ t.phase = .wait ∧ t.tx = s.tx ∧ t.op = s.op ∧ t.ch = s.ch ∧ t.k = s.k ∧
      t.acc = s.acc ∧ t.host = s.host ∧ t.history = s.history

/-- HV1: an idle block to which nothing is offered does nothing, for ever. That a host with nothing to do is an empty list of
events is the model's form (log entry 9). -/
def Obligations.IdleBlockDoesNothing : Prop :=
  ∀ (n : Nat) (s : State), s.phase = .idle → s.rst = false → s.xend = none → s.req = none → s.host.mode = .running →
    s.host.events = [] →
    ∃ t, steps n s = .next t ∧ t = (if n = 0 then s else s.quiet)

/-! Invariants -/

/-- Every step keeps the invariant. -/
def Obligations.StepKeepsTheInvariant : Prop := ∀ s t : State, s.Inv → step s = .next t → t.Inv

/-- A sound state always steps, except on the reset that the contract leaves out: no element without a value is read (R26),
no event happens out of its phase (R86). -/
def Obligations.SoundStateSteps : Prop := ∀ s : State, s.Inv → s.InContract → ∃ t, step s = .next t

/-- R42: the record alternates. Every step keeps it, in every state. -/
def Obligations.StepKeepsTheRecordAlternating : Prop :=
  ∀ s t : State, s.RecordAgrees → step s = .next t → t.RecordAgrees

/-- R42, R82, R84: the frames of the operation in progress are those of channels 0, 1, 2 and so on, in order, with no gap and
no repeat. Every step keeps it, in every state. -/
def Obligations.StepKeepsTheChannelOrder : Prop :=
  ∀ s t : State, s.OrderKept → step s = .next t → t.OrderKept

/-- R26: a read of an element that holds no value is the fault that names it, at the step and in every meaning that reads
one; and no fault has another cause. (`none` for no value: log entry 4; OK reads `op` and `k` as its transition does: log
entry 1.) -/
def Obligations.FaultsNameAMissingValue : Prop :=
  (∀ (s : State) (e : Element), (step s = .fault (.noValue e) ∨ ∃ i, exec i s = .fault (.noValue e)) →
    match e with
    | .op => s.op = none
    | .ch => s.ch = none
    | .k => s.k = none
    | .acc => ∃ i : Channel, i.val < 7 ∧ s.acc[i] = none) ∧
  ∀ s : State, s.rst = false →
    (s.phase = .run → ∀ i : Instr, (i.format = .commandFrame ∨ i = .invalidChannel) →
      (s.op = none → exec i s = .fault (.noValue .op)) ∧
      (s.op = some .readCh → s.ch = none → exec i s = .fault (.noValue .ch)) ∧
      (s.op = some .readAll → s.k = none → exec i s = .fault (.noValue .k))) ∧
    (s.phase = .wait → ∀ (r : Frame) (i : Instr), (i = .rspFrame r ∨ (i = .ok ∧ s.xend = some (.ok r))) →
      (s.op = none → exec i s = .fault (.noValue .op)) ∧
      (s.op = some .readAll → s.k = none → exec i s = .fault (.noValue .k)) ∧
      (s.op = some .readAll → s.k = some 7 → (∃ j : Channel, j.val < 7 ∧ s.acc[j] = none) →
        exec i s = .fault (.noValue .acc)))

/-! Whole operations -/

/-- R77, R78: READ_CH from its request to its response, with its transfers, at every width of the request. The number of steps
and the list of answers are the model's (log entries 6, 9, 27). A legal index and bytes: one XSTART, one XEND, OK
with the Sample. A legal index and a failure: one XSTART, one XEND, TRANSFER_FAILED. An index above 7: no transfer,
INVALID_CHANNEL. -/
def Obligations.ReadChFromRequestToResponse : Prop :=
  ∀ (c : Nat) (s : State), s.Ready → c < 2 ^ s.chW → s.req = some c →
    (∀ (k : Channel) (r : Frame) (rest : List XEnd), c = k.val → s.answers = .ok r :: rest →
      ∃ t, steps 4 s = .next t ∧ t.phase = .idle ∧ t.Empty ∧ t.answers = rest ∧
        t.rsp = some (.sample (dec r)) ∧
        t.history = [.rsp (.sample (dec r)), .xend (.ok r), .xstart (enc k), .req (.readCh c)] ++ s.history) ∧
    (∀ (k : Channel) (rest : List XEnd), c = k.val → s.answers = .fail :: rest →
      ∃ t, steps 4 s = .next t ∧ t.phase = .idle ∧ t.Empty ∧ t.answers = rest ∧
        t.rsp = some .transferFailed ∧
        t.history = [.rsp .transferFailed, .xend .fail, .xstart (enc k), .req (.readCh c)] ++ s.history) ∧
    (7 < c →
      ∃ t, steps 2 s = .next t ∧ t.phase = .idle ∧ t.Empty ∧ t.answers = s.answers ∧
        t.rsp = some .invalidChannel ∧ t.history = [.rsp .invalidChannel, .req (.readCh c)] ++ s.history)

/-- R81, R82, R85: READ_ALL with eight good transfers: the eight frames in order, then OK with the Reading Set whose element i is
DEC of the bytes of channel i. The number of steps and the list of answers are the model's (log entries 6, 9, 27). -/
def Obligations.ReadAllDeliversTheReadingSet : Prop :=
  ∀ (x : Nat) (rs : Vector Frame 8) (rest : List XEnd) (s : State), s.Ready → x < 2 ^ s.chW → s.req = some (2 ^ s.chW + x) →
    s.answers = rs.toList.map XEnd.ok ++ rest →
    ∃ t, steps 25 s = .next t ∧ t.phase = .idle ∧ t.Empty ∧ t.answers = rest ∧
      t.rsp = some (.readingSet (rs.map dec)) ∧
      t.history = .rsp (.readingSet (rs.map dec)) :: ((transferEvents 0 rs.toList).reverse ++ .req .readAll :: s.history)

/-- R83, R84: READ_ALL whose first failure is at channel k performs k + 1 transfers and responds TRANSFER_FAILED; nothing is
delivered, no answer for a later channel is taken. The number of steps and the list of answers are the model's (log entries
6, 9, 27). -/
def Obligations.ReadAllStopsAtTheFirstFailure : Prop :=
  ∀ (x : Nat) (k : Channel) (rs : List Frame) (rest : List XEnd) (s : State), s.Ready → x < 2 ^ s.chW →
    s.req = some (2 ^ s.chW + x) → rs.length = k.val → s.answers = rs.map XEnd.ok ++ .fail :: rest →
    ∃ t, steps (1 + 3 * (k.val + 1)) s = .next t ∧ t.phase = .idle ∧ t.Empty ∧ t.answers = rest ∧
      t.rsp = some .transferFailed ∧
      t.history = .rsp .transferFailed :: .xend .fail :: .xstart (enc k) ::
        ((transferEvents 0 rs).reverse ++ .req .readAll :: s.history)

/-- READ_ALL against the reference device of R72, with any junk at each channel, delivers the values the device is configured
with. The number of steps and the list of answers are the model's (log entries 6, 9, 27); the device is the fixture of R72
(log entry 23). -/
def Obligations.ReadAllReadsTheReferenceDevice : Prop :=
  ∀ (x : Nat) (v : Vector Sample 8) (j0 : Vector Byte 8) (j1 : Vector (BitVec 6) 8) (rest : List XEnd)
    (s : State), s.Ready → x < 2 ^ s.chW → s.req = some (2 ^ s.chW + x) →
    (∀ c : Channel, ∃ r, refDevice v j0[c] j1[c] (enc c) = some r ∧ s.answers[c.val]? = some (.ok r)) →
    s.answers.drop 8 = rest →
    ∃ t, steps 25 s = .next t ∧ t.rsp = some (.readingSet v) ∧ t.answers = rest

/-- R35, R87, R128: with BUS_LIVE for the eight transfers an operation can need, every operation in progress ends in a response.
BUS_LIVE is a premise about the bus agent. Its form, an answer in the list for each transfer (log entries 9, 10), and the
bound of 24 steps, three for each transfer with an answer at the agent's first turn (log entries 6, 9, 27), are the
model's: no rule counts steps. -/
def Obligations.OperationEndsUnderBusLive : Prop :=
  ∀ s : State, s.Inv → s.phase ≠ .idle → s.rst = false → s.BusLive 8 →
    ∃ n t, n ≤ 24 ∧ steps n s = .next t ∧ t.phase = .idle ∧ t.rsp ≠ none

/-! Independence -/

/-- R13, R88, R99: the past does not matter. Two states that differ in the record and in what the host printed and noted step to
states that differ in these only. -/
def Obligations.PastDoesNotMatter : Prop :=
  ∀ s u : State, s.forgetPast = u.forgetPast →
    viewNext State.forgetPast (step s) = viewNext State.forgetPast (step u)

/-- R45: the bytes of the bus never influence control. Two states that differ in bytes received or to be received only step to
states that differ in bytes only: the same phase, operation, channel, frame started, and status. -/
def Obligations.BytesNeverInfluenceControl : Prop :=
  ∀ s u : State, s.forgetBytes = u.forgetBytes →
    viewNext State.forgetBytes (step s) = viewNext State.forgetBytes (step u)

/-- R20, R21: `tx` and `rx` are read by no step: DEC reads the bytes as XEND brings them, XSTART carries the frame just built. The
next states differ in `tx` and `rx` alone, if at all. -/
def Obligations.FramesAreDeadAfterTheirTransfer : Prop :=
  ∀ (s : State) (a b : Option Frame),
    viewNext State.forgetFrames (step { s with tx := a, rx := b }) = viewNext State.forgetFrames (step s)

/-! The host and the platform, outside the block (log entry 15) -/

/-- R101, R102, R110: what a running host does with each event while the block is idle. The list of events, the ignored bits
of a tick's request and the reset in IDLE are the model's (log entries 9, 12, 15). -/
def Obligations.RunningHostTakesOneEvent : Prop :=
  ∀ (s : State) (es : List HostEvent), s.phase = .idle → s.rst = false → s.xend = none → s.req = none →
    s.host.mode = .running →
    (s.host.events = .tick :: es → step s = .next { s with
      req := some (2 ^ s.chW), xstart := none, rsp := none,
      host := { s.host with events := es, polling := true } }) ∧
    (s.host.events = .interrupt :: es → step s = .next { s with
      xstart := none, rsp := none,
      host := { s.host with events := es, mode := .terminated .normal, console := s.host.console ++ [.exitNotice] } }) ∧
    (∀ w : ReqWord, s.host.events = .request w :: es → step s = .next { s with
      req := some w, xstart := none, rsp := none, host := { s.host with events := es } }) ∧
    (s.host.events = .rst :: es → step s = .next { s with
      rst := true, xstart := none, rsp := none, host := { s.host with events := es } })

/-- R101, R104, R108: inside a tick a Reading Set is printed, a header and then one line per channel in channel order, and
the host stays running; an error prints a message and ends the process with fatal status. Lines and statuses are names, and
an error message line comes before the end (log entry 17); the mark is log entry 14. That a tick prints these nine lines and
no blank line between ticks is log entry 17 too. -/
def Obligations.TickPrintsOrTerminates : Prop :=
  ∀ h : HostAgent, h.polling = true →
    (∀ v : Vector Sample 8, ∃ lines : List ConsoleLine, lines.length = 9 ∧ lines[0]? = some .header ∧
      (∀ c : Channel, lines[c.val + 1]? = some (.channel c v[c])) ∧
      h.take (.readingSet v) = { h with polling := false, console := h.console ++ lines }) ∧
    ∀ r : Response, r.status ≠ .ok →
      h.take r = { h with
        polling := false, goneWrong := true, mode := .terminated .fatal, console := h.console ++ [.errorMessage] }

/-- R104, R133: a host that has terminated stays so and issues nothing further. The events stay untouched in their list (log
entries 9, 18). -/
def Obligations.TerminatedHostIssuesNothing : Prop :=
  ∀ (s t : State) (x : ExitStatus), s.HostAgrees → s.host.mode = .terminated x → step s = .next t →
    t.host.mode = .terminated x ∧ t.host.events = s.host.events ∧
      (s.phase = .idle → s.rst = false → s.req = none → t = s.quiet)

/-- R106, R127: nothing the host is about to do touches an operation in progress: with other host events to come, the step is
the same, and none of them is taken. The events are a list in State (log entries 9, 15). -/
def Obligations.HostEventsWaitForTheResponse : Prop :=
  ∀ (s : State) (es : List HostEvent), s.phase ≠ .idle →
    step { s with host := { s.host with events := es } } =
      viewNext (fun t => { t with host := { t.host with events := es } }) (step s) ∧
    ∀ t, step s = .next t → t.host.events = s.host.events

/-- R99: the mark in the system state around the block is set by every error response and never cleared. Where the mark
stands is the model's (log entry 14). -/
def Obligations.ErrorMarkIsSticky : Prop :=
  ∀ s t : State, step s = .next t →
    (s.host.goneWrong = true → t.host.goneWrong = true) ∧
    (∀ r, t.rsp = some r → r.status ≠ .ok → t.host.goneWrong = true) ∧
    (t.host.goneWrong = true → s.host.goneWrong = true ∨ ∃ r, t.rsp = some r ∧ r.status ≠ .ok)

/-- R114: the bus connection is never reopened, so it is acquired at most once and released at most once: a step never takes it
back from released, nor from connected to the boot. -/
def Obligations.ConnectionIsNeverReopened : Prop :=
  ∀ s t : State, step s = .next t →
    (s.host.mode.session = .released → t.host.mode.session = .released) ∧
    (s.host.mode.session = .connected → t.host.mode.session ≠ .acquiring)

/-- R121: four boot steps that all succeed, from the first, bring the host into its loop. The list of results, one boot step
for each step of the model, and that events pending in the host's list, an interrupt among them, are left untouched by the
boot, are the model's choices (log entries 9, 28, 29). -/
def Obligations.BootReachesTheLoop : Prop :=
  ∀ (s : State) (rest : List Bool), s.phase = .idle → s.rst = false → s.xend = none → s.req = none →
    s.host.mode = .booting .busLibraryInit → s.host.bootResults = [true, true, true, true] ++ rest →
    steps 4 s = .next { s with
      xstart := none, rsp := none, host := { s.host with mode := .running, bootResults := rest } }

/-- R92, R122: a boot step that fails ends the process with a fatal status, and no request ever reaches the block. The list
of results, one boot step for each step of the model, and that the termination comes whatever is pending in the host's list,
an interrupt among them, are the model's choices (log entries 9, 28, 29). -/
def Obligations.FailedBootMakesNoRequest : Prop :=
  ∀ (s t : State) (b : BootStep) (j n : Nat) (rest : List Bool), s.phase = .idle → s.rst = false → s.xend = none →
    s.req = none → s.host.mode = .booting b → j < b.left → s.host.bootResults = List.replicate j true ++ false :: rest →
    steps n s = .next t →
    t.phase = .idle ∧ t.req = none ∧ t.history = s.history ∧ (j < n → t.host.mode = .terminated .fatal)

/-! The open width of a request -/

/-- R7, R60: the width of a request is a parameter of the block. No step changes it, reset included. -/
def Obligations.WidthIsFixed : Prop :=
  ∀ s t : State, step s = .next t → t.chW = s.chW

end
end

