-- ==== Sys2Proof/Laws/State.lean ====
section
/-! SUPPORT. One lemma for each field of State and each named update of the block: what the update leaves in the field. -/

namespace Sys2Proof.Machine

@[simp] theorem State.quiet_chW (s : State) : (s.quiet).chW = s.chW := rfl
@[simp] theorem State.quiet_phase (s : State) : (s.quiet).phase = s.phase := rfl
@[simp] theorem State.quiet_op (s : State) : (s.quiet).op = s.op := rfl
@[simp] theorem State.quiet_ch (s : State) : (s.quiet).ch = s.ch := rfl
@[simp] theorem State.quiet_k (s : State) : (s.quiet).k = s.k := rfl
@[simp] theorem State.quiet_acc (s : State) : (s.quiet).acc = s.acc := rfl
@[simp] theorem State.quiet_tx (s : State) : (s.quiet).tx = s.tx := rfl
@[simp] theorem State.quiet_rx (s : State) : (s.quiet).rx = s.rx := rfl
@[simp] theorem State.quiet_req (s : State) : (s.quiet).req = s.req := rfl
@[simp] theorem State.quiet_xend (s : State) : (s.quiet).xend = s.xend := rfl
@[simp] theorem State.quiet_rst (s : State) : (s.quiet).rst = s.rst := rfl
@[simp] theorem State.quiet_xstart (s : State) : (s.quiet).xstart = none := rfl
@[simp] theorem State.quiet_rsp (s : State) : (s.quiet).rsp = none := rfl
@[simp] theorem State.quiet_answers (s : State) : (s.quiet).answers = s.answers := rfl
@[simp] theorem State.quiet_host (s : State) : (s.quiet).host = s.host := rfl
@[simp] theorem State.quiet_history (s : State) : (s.quiet).history = s.history := rfl

@[simp] theorem respond_chW (r : Response) (s : State) : (respond r s).chW = s.chW := rfl
@[simp] theorem respond_phase (r : Response) (s : State) : (respond r s).phase = .idle := rfl
@[simp] theorem respond_op (r : Response) (s : State) : (respond r s).op = none := rfl
@[simp] theorem respond_ch (r : Response) (s : State) : (respond r s).ch = none := rfl
@[simp] theorem respond_k (r : Response) (s : State) : (respond r s).k = none := rfl
@[simp] theorem respond_acc (r : Response) (s : State) : (respond r s).acc = noSamples := rfl
@[simp] theorem respond_tx (r : Response) (s : State) : (respond r s).tx = none := rfl
@[simp] theorem respond_rx (r : Response) (s : State) : (respond r s).rx = none := rfl
@[simp] theorem respond_req (r : Response) (s : State) : (respond r s).req = s.req := rfl
@[simp] theorem respond_xend (r : Response) (s : State) : (respond r s).xend = s.xend := rfl
@[simp] theorem respond_rst (r : Response) (s : State) : (respond r s).rst = s.rst := rfl
@[simp] theorem respond_xstart (r : Response) (s : State) : (respond r s).xstart = none := rfl
@[simp] theorem respond_rsp (r : Response) (s : State) : (respond r s).rsp = some r := rfl
@[simp] theorem respond_answers (r : Response) (s : State) : (respond r s).answers = s.answers := rfl
@[simp] theorem respond_host (r : Response) (s : State) : (respond r s).host = s.host.take r := rfl
@[simp] theorem respond_history (r : Response) (s : State) : (respond r s).history = .rsp r :: s.history := rfl

@[simp] theorem acceptRequest_readCh_chW (c : Nat) (s : State) : (acceptRequest (.readCh c) s).chW = s.chW := rfl
@[simp] theorem acceptRequest_readCh_phase (c : Nat) (s : State) : (acceptRequest (.readCh c) s).phase = .run := rfl
@[simp] theorem acceptRequest_readCh_op (c : Nat) (s : State) : (acceptRequest (.readCh c) s).op = some .readCh := rfl
@[simp] theorem acceptRequest_readCh_ch (c : Nat) (s : State) : (acceptRequest (.readCh c) s).ch = some c := rfl
@[simp] theorem acceptRequest_readCh_k (c : Nat) (s : State) : (acceptRequest (.readCh c) s).k = s.k := rfl
@[simp] theorem acceptRequest_readCh_acc (c : Nat) (s : State) : (acceptRequest (.readCh c) s).acc = s.acc := rfl
@[simp] theorem acceptRequest_readCh_tx (c : Nat) (s : State) : (acceptRequest (.readCh c) s).tx = s.tx := rfl
@[simp] theorem acceptRequest_readCh_rx (c : Nat) (s : State) : (acceptRequest (.readCh c) s).rx = s.rx := rfl
@[simp] theorem acceptRequest_readCh_req (c : Nat) (s : State) : (acceptRequest (.readCh c) s).req = none := rfl
@[simp] theorem acceptRequest_readCh_xend (c : Nat) (s : State) : (acceptRequest (.readCh c) s).xend = s.xend := rfl
@[simp] theorem acceptRequest_readCh_rst (c : Nat) (s : State) : (acceptRequest (.readCh c) s).rst = s.rst := rfl
@[simp] theorem acceptRequest_readCh_xstart (c : Nat) (s : State) : (acceptRequest (.readCh c) s).xstart = none := rfl
@[simp] theorem acceptRequest_readCh_rsp (c : Nat) (s : State) : (acceptRequest (.readCh c) s).rsp = none := rfl
@[simp] theorem acceptRequest_readCh_answers (c : Nat) (s : State) : (acceptRequest (.readCh c) s).answers = s.answers := rfl
@[simp] theorem acceptRequest_readCh_host (c : Nat) (s : State) : (acceptRequest (.readCh c) s).host = s.host := rfl
@[simp] theorem acceptRequest_readCh_history (c : Nat) (s : State) : (acceptRequest (.readCh c) s).history = .req (.readCh c) :: s.history := rfl

@[simp] theorem acceptRequest_readAll_chW (s : State) : (acceptRequest .readAll s).chW = s.chW := rfl
@[simp] theorem acceptRequest_readAll_phase (s : State) : (acceptRequest .readAll s).phase = .run := rfl
@[simp] theorem acceptRequest_readAll_op (s : State) : (acceptRequest .readAll s).op = some .readAll := rfl
@[simp] theorem acceptRequest_readAll_ch (s : State) : (acceptRequest .readAll s).ch = s.ch := rfl
@[simp] theorem acceptRequest_readAll_k (s : State) : (acceptRequest .readAll s).k = some 0 := rfl
@[simp] theorem acceptRequest_readAll_acc (s : State) : (acceptRequest .readAll s).acc = s.acc := rfl
@[simp] theorem acceptRequest_readAll_tx (s : State) : (acceptRequest .readAll s).tx = s.tx := rfl
@[simp] theorem acceptRequest_readAll_rx (s : State) : (acceptRequest .readAll s).rx = s.rx := rfl
@[simp] theorem acceptRequest_readAll_req (s : State) : (acceptRequest .readAll s).req = none := rfl
@[simp] theorem acceptRequest_readAll_xend (s : State) : (acceptRequest .readAll s).xend = s.xend := rfl
@[simp] theorem acceptRequest_readAll_rst (s : State) : (acceptRequest .readAll s).rst = s.rst := rfl
@[simp] theorem acceptRequest_readAll_xstart (s : State) : (acceptRequest .readAll s).xstart = none := rfl
@[simp] theorem acceptRequest_readAll_rsp (s : State) : (acceptRequest .readAll s).rsp = none := rfl
@[simp] theorem acceptRequest_readAll_answers (s : State) : (acceptRequest .readAll s).answers = s.answers := rfl
@[simp] theorem acceptRequest_readAll_host (s : State) : (acceptRequest .readAll s).host = s.host := rfl
@[simp] theorem acceptRequest_readAll_history (s : State) : (acceptRequest .readAll s).history = .req .readAll :: s.history := rfl

@[simp] theorem holdRequest_chW (w : ReqWord) (s : State) : (holdRequest w s).chW = s.chW := rfl
@[simp] theorem holdRequest_phase (w : ReqWord) (s : State) : (holdRequest w s).phase = s.phase := rfl
@[simp] theorem holdRequest_op (w : ReqWord) (s : State) : (holdRequest w s).op = s.op := rfl
@[simp] theorem holdRequest_ch (w : ReqWord) (s : State) : (holdRequest w s).ch = s.ch := rfl
@[simp] theorem holdRequest_k (w : ReqWord) (s : State) : (holdRequest w s).k = s.k := rfl
@[simp] theorem holdRequest_acc (w : ReqWord) (s : State) : (holdRequest w s).acc = s.acc := rfl
@[simp] theorem holdRequest_tx (w : ReqWord) (s : State) : (holdRequest w s).tx = s.tx := rfl
@[simp] theorem holdRequest_rx (w : ReqWord) (s : State) : (holdRequest w s).rx = s.rx := rfl
@[simp] theorem holdRequest_req (w : ReqWord) (s : State) : (holdRequest w s).req = some w := rfl
@[simp] theorem holdRequest_xend (w : ReqWord) (s : State) : (holdRequest w s).xend = s.xend := rfl
@[simp] theorem holdRequest_rst (w : ReqWord) (s : State) : (holdRequest w s).rst = s.rst := rfl
@[simp] theorem holdRequest_xstart (w : ReqWord) (s : State) : (holdRequest w s).xstart = none := rfl
@[simp] theorem holdRequest_rsp (w : ReqWord) (s : State) : (holdRequest w s).rsp = none := rfl
@[simp] theorem holdRequest_answers (w : ReqWord) (s : State) : (holdRequest w s).answers = s.answers := rfl
@[simp] theorem holdRequest_host (w : ReqWord) (s : State) : (holdRequest w s).host = s.host := rfl
@[simp] theorem holdRequest_history (w : ReqWord) (s : State) : (holdRequest w s).history = s.history := rfl

@[simp] theorem startTransfer_chW (f : Frame) (s : State) : (startTransfer f s).chW = s.chW := rfl
@[simp] theorem startTransfer_phase (f : Frame) (s : State) : (startTransfer f s).phase = .wait := rfl
@[simp] theorem startTransfer_op (f : Frame) (s : State) : (startTransfer f s).op = s.op := rfl
@[simp] theorem startTransfer_ch (f : Frame) (s : State) : (startTransfer f s).ch = s.ch := rfl
@[simp] theorem startTransfer_k (f : Frame) (s : State) : (startTransfer f s).k = s.k := rfl
@[simp] theorem startTransfer_acc (f : Frame) (s : State) : (startTransfer f s).acc = s.acc := rfl
@[simp] theorem startTransfer_tx (f : Frame) (s : State) : (startTransfer f s).tx = some f := rfl
@[simp] theorem startTransfer_rx (f : Frame) (s : State) : (startTransfer f s).rx = s.rx := rfl
@[simp] theorem startTransfer_req (f : Frame) (s : State) : (startTransfer f s).req = s.req := rfl
@[simp] theorem startTransfer_xend (f : Frame) (s : State) : (startTransfer f s).xend = s.xend := rfl
@[simp] theorem startTransfer_rst (f : Frame) (s : State) : (startTransfer f s).rst = s.rst := rfl
@[simp] theorem startTransfer_xstart (f : Frame) (s : State) : (startTransfer f s).xstart = some f := rfl
@[simp] theorem startTransfer_rsp (f : Frame) (s : State) : (startTransfer f s).rsp = none := rfl
@[simp] theorem startTransfer_answers (f : Frame) (s : State) : (startTransfer f s).answers = s.answers := rfl
@[simp] theorem startTransfer_host (f : Frame) (s : State) : (startTransfer f s).host = s.host := rfl
@[simp] theorem startTransfer_history (f : Frame) (s : State) : (startTransfer f s).history = .xstart f :: s.history := rfl

@[simp] theorem resetBlock_chW (s : State) : (resetBlock s).chW = s.chW := rfl
@[simp] theorem resetBlock_phase (s : State) : (resetBlock s).phase = .idle := rfl
@[simp] theorem resetBlock_op (s : State) : (resetBlock s).op = none := rfl
@[simp] theorem resetBlock_ch (s : State) : (resetBlock s).ch = none := rfl
@[simp] theorem resetBlock_k (s : State) : (resetBlock s).k = none := rfl
@[simp] theorem resetBlock_acc (s : State) : (resetBlock s).acc = noSamples := rfl
@[simp] theorem resetBlock_tx (s : State) : (resetBlock s).tx = none := rfl
@[simp] theorem resetBlock_rx (s : State) : (resetBlock s).rx = none := rfl
@[simp] theorem resetBlock_req (s : State) : (resetBlock s).req = none := rfl
@[simp] theorem resetBlock_xend (s : State) : (resetBlock s).xend = none := rfl
@[simp] theorem resetBlock_rst (s : State) : (resetBlock s).rst = false := rfl
@[simp] theorem resetBlock_xstart (s : State) : (resetBlock s).xstart = none := rfl
@[simp] theorem resetBlock_rsp (s : State) : (resetBlock s).rsp = none := rfl
@[simp] theorem resetBlock_answers (s : State) : (resetBlock s).answers = s.answers := rfl
@[simp] theorem resetBlock_host (s : State) : (resetBlock s).host = { s.host with polling := false } := rfl
@[simp] theorem resetBlock_history (s : State) : (resetBlock s).history = .rst :: s.history := rfl

end Sys2Proof.Machine
end

