-- ==== Sys2Proof/Laws/Ops.lean ====
section
/-! SUPPORT. What each shared operation can do, said once: later proofs cite these instead of unfolding the operation. -/

namespace Sys2Proof.Machine

@[simp] theorem enabled_iff (p : Phase) (s : State) : s.enabled p = true ↔ s.phase = p ∧ s.rst = false := by
  simp [State.enabled]

/-- The range check keeps 0 to 7 and nothing else. -/
theorem rangeCheck_legal_iff (w : Nat) (c : Channel) : rangeCheck w = .legal c ↔ w = c.val := by
  unfold rangeCheck
  split
  · simp [Fin.ext_iff]
  · have := c.isLt
    simp only [reduceCtorEq, false_iff]
    omega

theorem rangeCheck_outOfRange_iff (w : Nat) : rangeCheck w = .outOfRange ↔ 7 < w := by
  unfold rangeCheck
  split <;> simp <;> omega

/-- `cur` is a legal channel where the operation's own element holds one. -/
theorem cur_legal_iff (s : State) (c : Channel) :
    s.cur = .ok (.legal c) ↔
      (s.op = some .readCh ∧ s.ch = some c.val) ∨ (s.op = some .readAll ∧ s.k = some c) := by
  rcases ho : s.op with - | - | - <;> rcases hc : s.ch with - | w <;> rcases hk : s.k with - | k <;>
    simp [State.cur, ho, hc, hk, rangeCheck_legal_iff]

theorem cur_outOfRange_iff (s : State) :
    s.cur = .ok .outOfRange ↔ s.op = some .readCh ∧ ∃ w, s.ch = some w ∧ 7 < w := by
  rcases ho : s.op with - | - | - <;> rcases hc : s.ch with - | w <;> rcases hk : s.k with - | k <;>
    simp [State.cur, ho, hc, hk, rangeCheck_outOfRange_iff]

/-- A fault of `cur` names an element that holds no value. -/
theorem cur_error_iff (s : State) (f : Fault) :
    s.cur = .error f ↔
      (f = .noValue .op ∧ s.op = none) ∨ (f = .noValue .ch ∧ s.op = some .readCh ∧ s.ch = none) ∨
        (f = .noValue .k ∧ s.op = some .readAll ∧ s.k = none) := by
  rcases ho : s.op with - | - | - <;> rcases hc : s.ch with - | w <;> rcases hk : s.k with - | k <;>
    simp [State.cur, ho, hc, hk, eq_comm]

/-- The Reading Set is complete exactly where each entry holds a Sample. -/
theorem readingSet?_eq_some_iff (acc : Vector (Option Sample) 8) (v : Vector Sample 8) :
    readingSet? acc = some v ↔ acc = v.map some := by
  constructor
  · intro h
    unfold readingSet? at h
    split at h
    · rename_i h0 h1 h2 h3 h4 h5 h6 h7
      cases h
      ext1 i hi
      rcases i with _ | _ | _ | _ | _ | _ | _ | _ | i <;> first | omega | simp [h0, h1, h2, h3, h4, h5, h6, h7]
    · cases h
  · rintro rfl
    simp only [readingSet?, Vector.getElem_map]
    congr 1
    ext1 i hi
    rcases i with _ | _ | _ | _ | _ | _ | _ | _ | i <;> first | omega | rfl

theorem readingSet?_eq_none_iff (acc : Vector (Option Sample) 8) :
    readingSet? acc = none ↔ ∃ i : Channel, acc[i] = none := by
  constructor
  · intro h
    by_contra hn
    push Not at hn
    have hall : ∀ i : Channel, ∃ x, acc[i] = some x := fun i => Option.ne_none_iff_exists'.mp (hn i)
    choose f hf using hall
    have : readingSet? acc = some (Vector.ofFn f) := by
      rw [readingSet?_eq_some_iff]
      ext1 i hi
      simpa using hf ⟨i, hi⟩
    simp [this] at h
  · rintro ⟨i, hi⟩
    rcases h : readingSet? acc with - | v
    · rfl
    · rw [readingSet?_eq_some_iff] at h
      subst h
      simp at hi

/-- A Command Frame goes out in RUN, of the current channel, and in no other way. -/
theorem sendCommand_next_iff (chan : Nat) (s t : State) :
    sendCommand chan s = .next t ↔
      s.phase = .run ∧ s.rst = false ∧ ∃ c, s.cur = .ok (.legal c) ∧ c.val = chan ∧ t = startTransfer (enc c) s := by
  unfold sendCommand
  by_cases he : s.enabled .run = true
  · have h' := (enabled_iff _ _).mp he
    rw [if_pos he]
    rcases hc : s.cur with f | (c | -)
    · simp
    · by_cases hv : c.val = chan
      · simp [h', hv, eq_comm]
      · have : ∀ d : Channel, c = d → d.val ≠ chan := by rintro d rfl; exact hv
        simp only [hv, if_false, reduceCtorEq, false_iff]
        rintro ⟨-, -, d, hd, hv', -⟩
        cases hd
        exact hv hv'
    · simp
  · have h' := fun h => he ((enabled_iff _ _).mpr h)
    rw [if_neg he]
    simp only [reduceCtorEq, false_iff]
    rintro ⟨h1, h2, -⟩
    exact h' ⟨h1, h2⟩

/-- After the Sample of channel `k` is stored: the next channel, or after channel 7 the Reading Set. -/
theorem collect_next_iff (k : Channel) (r : Frame) (s t : State) :
    collect k r s = .next t ↔
      (k.val < 7 ∧ t = { s with
        rx := some r, acc := s.acc.set k.val (some (dec r)), k := some (k + 1), phase := .run }) ∨
      (k = 7 ∧ ∃ v : Vector Sample 8, s.acc.set k.val (some (dec r)) = v.map some ∧
        t = respond (.readingSet v) { s with rx := some r, acc := s.acc.set k.val (some (dec r)) }) := by
  unfold collect
  have h7 : k = 7 ↔ ¬ k.val < 7 := by have := k.isLt; simp only [Fin.ext_iff]; change k.val = 7 ↔ _; omega
  by_cases hk : k.val < 7
  · simp [hk, h7, eq_comm]
  · simp only [hk, if_false, false_and, false_or, h7, not_false_iff, true_and]
    rcases hs : readingSet? (s.acc.set k.val (some (dec r))) with - | v
    · simp only [reduceCtorEq, false_iff]
      rintro ⟨v, hv, -⟩
      simp [(readingSet?_eq_some_iff _ _).mpr hv] at hs
    · have hv := (readingSet?_eq_some_iff _ _).mp hs
      constructor
      · rintro ⟨⟩
        exact ⟨v, hv, rfl⟩
      · rintro ⟨v', hv', rfl⟩
        have : v' = v := by
          have := (readingSet?_eq_some_iff _ _).mpr hv'
          rw [hs] at this
          exact (Option.some.inj this).symm
        rw [this]

/-- A failed transfer ends the operation with TRANSFER_FAILED. -/
@[simp] theorem endTransfer_fail (s : State) :
    endTransfer .fail s =
      .next (respond .transferFailed { s.quiet with xend := none, history := .xend .fail :: s.history }) := rfl

/-- Bytes from the bus end a READ_CH with their Sample, or go to the collection of a READ_ALL. -/
theorem endTransfer_ok_next_iff (r : Frame) (s t : State) :
    endTransfer (.ok r) s = .next t ↔
      (s.op = some .readCh ∧ t = respond (.sample (dec r))
        { s.quiet with xend := none, history := .xend (.ok r) :: s.history, rx := some r }) ∨
      (s.op = some .readAll ∧ ∃ k, s.k = some k ∧
        collect k r { s.quiet with xend := none, history := .xend (.ok r) :: s.history } = .next t) := by
  rcases ho : s.op with - | - | - <;> rcases hk : s.k with - | k <;> simp [endTransfer, ho, hk, eq_comm]

/-- A request is accepted in IDLE with `rst` not asserted, and held otherwise. -/
theorem offerRequest_idle (ch : Nat) (w : ReqWord) (r : Request) (s : State) (hc : ch < 2 ^ s.chW) (hp : s.phase = .idle)
    (hr : s.rst = false) : offerRequest ch w r s = .next (acceptRequest r s) := by
  simp [offerRequest, hc, hp, hr]

theorem offerRequest_busy (ch : Nat) (w : ReqWord) (r : Request) (s : State) (hc : ch < 2 ^ s.chW)
    (h : s.phase ≠ .idle ∨ s.rst = true) : offerRequest ch w r s = .next (holdRequest w s) := by
  have : ¬ s.enabled .idle = true := by
    rw [enabled_iff]
    rintro ⟨h1, h2⟩
    rcases h with h | h
    · exact h h1
    · simp [h2] at h
  simp [offerRequest, hc, this]

/-- There is no request word whose `req_ch` has more than `CH_W` bits. -/
theorem offerRequest_tooWide (ch : Nat) (w : ReqWord) (r : Request) (s : State) (hc : 2 ^ s.chW ≤ ch) :
    offerRequest ch w r s = .refused .undecodable := by
  simp [offerRequest, hc]

/-- XEND Ok ends a READ_CH, and a READ_ALL at channel 7. -/
theorem lastTransfer_iff (s : State) :
    s.lastTransfer = .ok true ↔ s.op = some .readCh ∨ (s.op = some .readAll ∧ s.k = some 7) := by
  rcases ho : s.op with - | - | - <;> rcases hk : s.k with - | k <;> simp [State.lastTransfer, ho, hk]

/-- A fault of `lastTransfer` names an element that holds no value. -/
theorem lastTransfer_error_iff (s : State) (f : Fault) :
    s.lastTransfer = .error f ↔
      (f = .noValue .op ∧ s.op = none) ∨ (f = .noValue .k ∧ s.op = some .readAll ∧ s.k = none) := by
  rcases ho : s.op with - | - | - <;> rcases hk : s.k with - | k <;> simp [State.lastTransfer, ho, hk, eq_comm]

/-- What the host keeps whatever the response: its events and the boot results still to come. -/
@[simp] theorem take_events (r : Response) (h : HostAgent) : (h.take r).events = h.events := by
  unfold HostAgent.take; split <;> rfl

@[simp] theorem take_bootResults (r : Response) (h : HostAgent) : (h.take r).bootResults = h.bootResults := by
  unfold HostAgent.take; split <;> rfl

@[simp] theorem take_polling (r : Response) (h : HostAgent) : (h.take r).polling = false := by
  unfold HostAgent.take; split <;> rfl

@[simp] theorem take_goneWrong (r : Response) (h : HostAgent) :
    (h.take r).goneWrong = (h.goneWrong || r.isError) := by
  unfold HostAgent.take; split <;> rfl

/-- A host that is not inside a tick only notes a response. -/
theorem take_not_polling (r : Response) (h : HostAgent) (hp : h.polling = false) :
    h.take r = { h with polling := false, goneWrong := h.goneWrong || r.isError } := by
  simp [HostAgent.take, hp]

/-- Inside a tick an error ends the host's process. -/
theorem take_polling_error (r : Response) (h : HostAgent) (hp : h.polling = true) (hr : r.isError = true) :
    h.take r = { h with
      polling := false, goneWrong := true, mode := .terminated .fatal, console := h.console ++ [.errorMessage] } := by
  cases r <;> simp_all [HostAgent.take, Response.isError]

/-- Inside a tick a Reading Set is printed. -/
theorem take_polling_readingSet (v : Vector Sample 8) (h : HostAgent) (hp : h.polling = true) :
    h.take (.readingSet v) = { h with polling := false, console := h.console ++ printReadingSet v } := by
  simp [HostAgent.take, hp, Response.isError]

end Sys2Proof.Machine
end

