-- ==== Sys2Proof/Laws/Decode.lean ====
section
/-! SUPPORT. What the decoder reads at each port, and the frame packing. -/

namespace Sys2Proof

/-- A bit of the 24-bit value of a frame (R46). -/
theorem Frame.getLsbD_toWord (f : Frame) (j : Nat) :
    f.toWord.getLsbD j =
      if j < 8 then f.b2.getLsbD j else if j < 16 then f.b1.getLsbD (j - 8) else f.b0.getLsbD (j - 16) := by
  have h1 : f.toWord.getLsbD j = if j < 8 then f.b2.getLsbD j else (f.b0 ++ f.b1).getLsbD (j - 8) :=
    BitVec.getLsbD_append
  have h2 : (f.b0 ++ f.b1).getLsbD (j - 8) =
      if j - 8 < 8 then f.b1.getLsbD (j - 8) else f.b0.getLsbD (j - 8 - 8) := BitVec.getLsbD_append
  rw [h1, h2]
  split
  · rfl
  · have e : j - 8 - 8 = j - 16 := by omega
    rw [e]
    congr 1
    simp only [eq_iff_iff]
    omega

/-- A frame survives its 24-bit value. -/
@[simp] theorem Frame.ofWord_toWord (f : Frame) : Frame.ofWord f.toWord = f := by
  rcases f with ⟨a, b, c⟩
  simp only [Frame.ofWord, Frame.mk.injEq]
  refine ⟨?_, ?_, ?_⟩ <;> ext i hi <;> simp [Frame.getLsbD_toWord, hi] <;> intros <;> omega

/-- The value of a 24-bit word is below 2^24. -/
theorem Frame.toWord_lt (f : Frame) : f.toWord.toNat < 2 ^ 24 := f.toWord.isLt

namespace Machine

@[simp] theorem decode_command_enc (n : Nat) (c : Channel) : decode n .commandFrame (enc c).toWord.toNat = .ok (cmdOf c) := by
  change decodeCommandFrame _ = _
  revert c; decide

@[simp] theorem decode_response_frame (n : Nat) (r : Frame) : decode n .responseFrame r.toWord.toNat = .ok (.rspFrame r) := by
  have h := r.toWord_lt
  simp only [decode, decodeResponseFrame]
  rw [if_neg (by omega), BitVec.ofNat_toNat, BitVec.setWidth_eq, Frame.ofWord_toWord]

/-- A request word has one bit more than its channel operand (R55). -/
theorem two_pow_reqW (n : Nat) : 2 ^ (1 + n) = 2 ^ n + 2 ^ n := by rw [Nat.pow_add]; omega

theorem decode_request_readCh (n c : Nat) (h : c < 2 ^ n) : decode n .requestWord c = .ok (.readCh c) := by
  have h2 := two_pow_reqW n
  simp only [decode, decodeRequest]
  rw [if_neg (by omega), if_pos h]

theorem decode_request_readAll (n x : Nat) (h : x < 2 ^ n) : decode n .requestWord (2 ^ n + x) = .ok (.readAll x) := by
  have h2 := two_pow_reqW n
  simp only [decode, decodeRequest]
  rw [if_neg (by omega), if_neg (by omega), Nat.add_sub_cancel_left]

theorem decode_request_tooWide (n w : Nat) (h : 2 ^ (1 + n) ≤ w) : decode n .requestWord w = .error .tooWide := by
  simp only [decode, decodeRequest, if_pos h]

@[simp] theorem decode_status_failed (n : Nat) :
    decode n .responseStatus Status.transferFailed.code.toNat = .ok .transferFailed := rfl

@[simp] theorem decode_status_invalid (n : Nat) :
    decode n .responseStatus Status.invalidChannel.code.toNat = .ok .invalidChannel := rfl

/-- Every request word of the width is a READ_CH or a READ_ALL. -/
theorem request_word_cases (n w : Nat) (h : w < 2 ^ (1 + n)) : w < 2 ^ n ∨ ∃ x, x < 2 ^ n ∧ w = 2 ^ n + x := by
  have h2 := two_pow_reqW n
  by_cases hw : w < 2 ^ n
  · exact .inl hw
  · exact .inr ⟨w - 2 ^ n, by omega, by omega⟩

/-- The frame of a channel, byte by byte. -/
theorem enc_bytes (c : Channel) : enc c = { b0 := 0x01, b1 := BitVec.ofNat 8 (0x80 + 16 * c.val), b2 := 0x00 } := by
  revert c; decide

/-- A channel's specific row sends that channel's frame. -/
@[simp] theorem exec_cmdOf (c : Channel) (s : State) : exec (cmdOf c) s = sendCommand c.val s := by
  rcases c with ⟨c, hc⟩
  rcases c with _ | _ | _ | _ | _ | _ | _ | _ | c
  all_goals first | rfl | omega

/-- What READ_CH answers. -/
@[simp] theorem exec_readCh (c : Nat) (s : State) : exec (.readCh c) s = offerRequest c c (.readCh c) s := rfl

/-- What READ_ALL answers. -/
@[simp] theorem exec_readAll (x : Nat) (s : State) :
    exec (.readAll x) s = offerRequest x (2 ^ s.chW + x) .readAll s := rfl

/-- RSP_FRAME answers a next state in WAIT only, the one the end of the transfer gives. -/
theorem exec_rspFrame_next_iff (r : Frame) (s t : State) :
    exec (.rspFrame r) s = .next t ↔ s.phase = .wait ∧ s.rst = false ∧ endTransfer (.ok r) s = .next t := by
  have h := enabled_iff .wait s
  simp only [exec, execRspFrame]
  by_cases he : s.enabled .wait = true
  · simp [h.mp he]
  · simp only [he, if_false, Bool.false_eq_true, reduceCtorEq, false_iff]
    rintro ⟨h1, h2, -⟩
    exact he (h.mpr ⟨h1, h2⟩)

/-- OK answers a next state in WAIT only, at the end of the last transfer of the operation. -/
theorem exec_ok_next_iff (s t : State) :
    exec .ok s = .next t ↔
      s.phase = .wait ∧ s.rst = false ∧ s.lastTransfer = .ok true ∧
        ∃ r, s.xend = some (.ok r) ∧ endTransfer (.ok r) s = .next t := by
  have h := enabled_iff .wait s
  simp only [exec, execOk]
  by_cases he : s.enabled .wait = true
  · rcases hx : s.xend with - | (r | -) <;> rcases hl : s.lastTransfer with f | (_ | _) <;> simp [h.mp he]
  · simp only [he, if_false, Bool.false_eq_true, reduceCtorEq, false_iff]
    rintro ⟨h1, h2, -⟩
    exact he (h.mpr ⟨h1, h2⟩)

/-- TRANSFER_FAILED answers a next state in WAIT only, with a failure at the bus port. -/
theorem exec_transferFailed_next_iff (s t : State) :
    exec .transferFailed s = .next t ↔
      s.phase = .wait ∧ s.rst = false ∧ s.xend = some .fail ∧ endTransfer .fail s = .next t := by
  have h := enabled_iff .wait s
  simp only [exec, execTransferFailed]
  by_cases he : s.enabled .wait = true
  · rcases hx : s.xend with - | (r | -) <;> simp [h.mp he]
  · simp only [he, if_false, Bool.false_eq_true, reduceCtorEq, false_iff]
    rintro ⟨h1, h2, -⟩
    exact he (h.mpr ⟨h1, h2⟩)

/-- INVALID_CHANNEL answers a next state in RUN only, for a channel index above 7. -/
theorem exec_invalidChannel_next_iff (s t : State) :
    exec .invalidChannel s = .next t ↔
      s.phase = .run ∧ s.rst = false ∧ s.cur = .ok .outOfRange ∧ t = respond .invalidChannel s := by
  have h := enabled_iff .run s
  simp only [exec, execInvalidChannel]
  by_cases he : s.enabled .run = true
  · rw [if_pos he]
    have hpr := h.mp he
    rcases hc : s.cur with f | (c | -)
    · simp
    · simp
    · simp only [hpr, true_and, Host.Outcome.next.injEq]
      exact eq_comm
  · simp only [he, if_false, Bool.false_eq_true, reduceCtorEq, false_iff]
    rintro ⟨h1, h2, -⟩
    exact he (h.mpr ⟨h1, h2⟩)

end Machine

end Sys2Proof
end

