-- ==== Sys2Proof/Laws/Agents.lean ====
section
/-! SUPPORT. What the turns of the host and of the bus agent leave alone, and when the step looks at the ports: one lemma each. -/

namespace Sys2Proof.Machine

/-- The host's turn changes the request port, `rst` and the host, withdraws the outputs, and leaves everything else. -/
theorem hostTurn_frame (s : State) :
    (hostTurn s).chW = s.chW ∧ (hostTurn s).phase = s.phase ∧ (hostTurn s).op = s.op ∧ (hostTurn s).ch = s.ch ∧
      (hostTurn s).k = s.k ∧
      (hostTurn s).acc = s.acc ∧ (hostTurn s).tx = s.tx ∧ (hostTurn s).rx = s.rx ∧ (hostTurn s).xend = s.xend ∧
      (hostTurn s).xstart = none ∧ (hostTurn s).rsp = none ∧ (hostTurn s).answers = s.answers ∧
      (hostTurn s).history = s.history := by
  unfold hostTurn
  rcases hm : s.host.mode with b | - | x
  · simp [hm]
  · rcases he : s.host.events with - | ⟨e, es⟩
    · simp [hm, he]
    · rcases e <;> simp [hm, he, hostEvent]
  · simp [hm]

/-- The host's turn does not touch the sticky mark. -/
theorem hostTurn_goneWrong (s : State) : (hostTurn s).host.goneWrong = s.host.goneWrong := by
  unfold hostTurn
  rcases hm : s.host.mode with b | - | x
  · simp only [State.quiet, hm, HostAgent.bootStep]
    rcases s.host.bootResults with - | ⟨_ | _, _⟩ <;> rfl
  · rcases he : s.host.events with - | ⟨e, es⟩
    · simp [hm, he]
    · rcases e <;> simp [hm, he, hostEvent]
  · simp [hm]

/-- The bus agent's turn changes the bus port and the answers to come, withdraws the outputs, and leaves everything else. -/
theorem busTurn_frame (s : State) :
    (busTurn s).chW = s.chW ∧ (busTurn s).phase = s.phase ∧ (busTurn s).op = s.op ∧ (busTurn s).ch = s.ch ∧
      (busTurn s).k = s.k ∧
      (busTurn s).acc = s.acc ∧ (busTurn s).tx = s.tx ∧ (busTurn s).rx = s.rx ∧ (busTurn s).req = s.req ∧
      (busTurn s).rst = s.rst ∧ (busTurn s).xstart = none ∧ (busTurn s).rsp = none ∧ (busTurn s).host = s.host ∧
      (busTurn s).history = s.history := by
  unfold busTurn
  rcases he : s.answers with - | ⟨e, es⟩ <;> simp [he]

/-- The answer the bus agent puts at the port. -/
theorem busTurn_answer (s : State) (a : XEnd) (rest : List XEnd) (h : s.answers = a :: rest) :
    busTurn s = { s.quiet with xend := some a, answers := rest } := by
  simp [busTurn, h]

theorem busTurn_silent (s : State) (h : s.answers = []) : busTurn s = s.quiet := by
  simp [busTurn, h]

/-- The host takes its next event. -/
theorem hostTurn_event (s : State) (e : HostEvent) (rest : List HostEvent) (hm : s.host.mode = .running)
    (h : s.host.events = e :: rest) : hostTurn s = hostEvent e rest s.quiet := by
  simp [hostTurn, hm, h]

theorem hostTurn_terminated (s : State) (x : ExitStatus) (hm : s.host.mode = .terminated x) : hostTurn s = s.quiet := by
  simp [hostTurn, hm]

/-- An answer at the bus port is stray outside WAIT, and there only. -/
theorem strayXend_iff (s : State) : s.strayXend = true ↔ s.phase ≠ .wait ∧ s.xend ≠ none := by
  unfold State.strayXend
  rcases s.xend with - | a <;> simp

theorem strayXend_false_of_none (s : State) (h : s.xend = none) : s.strayXend = false := by
  simp [State.strayXend, h]

theorem strayXend_false_of_wait (s : State) (h : s.phase = .wait) : s.strayXend = false := by
  simp [State.strayXend, h]

/-- A request word of the width is always one of the two instructions. -/
theorem decode_request_cases (n w : Nat) (h : w < 2 ^ (1 + n)) :
    (w < 2 ^ n ∧ decode n .requestWord w = .ok (.readCh w)) ∨
      (∃ x, x < 2 ^ n ∧ w = 2 ^ n + x ∧ decode n .requestWord w = .ok (.readAll x)) := by
  rcases request_word_cases n w h with hc | ⟨x, hx, rfl⟩
  · exact .inl ⟨hc, decode_request_readCh n w hc⟩
  · exact .inr ⟨x, hx, rfl, decode_request_readAll n x hx⟩

end Sys2Proof.Machine
end

