-- ==== Sys2Proof/Laws/PerInstr.lean ====
section
/-! SUPPORT. The per-instruction family RowMatch: the word of a well-formed instruction meets the mask and the match that the
opcode table gives its row, and fits the row's width. -/

namespace Sys2Proof.Laws.RowMatch

/-- The width of a row in the opcode table. -/
def width : Instr → Nat
  | .cmdSgl _ | .cmdSgl0 | .cmdSgl1 | .cmdSgl2 | .cmdSgl3 | .cmdSgl4 | .cmdSgl5 | .cmdSgl6 | .cmdSgl7 => 24
  | .rspFrame _ => 24
  | .readCh _ | .readAll _ => 5
  | .ok | .transferFailed | .invalidChannel => 2

/-- The mask of a row in the opcode table. -/
def mask : Instr → Nat
  | .cmdSgl _ => 0xFF8FFF
  | .cmdSgl0 | .cmdSgl1 | .cmdSgl2 | .cmdSgl3 | .cmdSgl4 | .cmdSgl5 | .cmdSgl6 | .cmdSgl7 => 0xFFFFFF
  | .rspFrame _ => 0x000000
  | .readCh _ | .readAll _ => 0x10
  | .ok | .transferFailed | .invalidChannel => 0x3

/-- The match of a row in the opcode table. -/
def matchBits : Instr → Nat
  | .cmdSgl _ => 0x018000
  | .cmdSgl0 => 0x018000
  | .cmdSgl1 => 0x019000
  | .cmdSgl2 => 0x01A000
  | .cmdSgl3 => 0x01B000
  | .cmdSgl4 => 0x01C000
  | .cmdSgl5 => 0x01D000
  | .cmdSgl6 => 0x01E000
  | .cmdSgl7 => 0x01F000
  | .rspFrame _ => 0x000000
  | .readCh _ => 0x00
  | .readAll _ => 0x10
  | .ok => 0x0
  | .transferFailed => 0x1
  | .invalidChannel => 0x2

/-- A well-formed instruction's word is its row's pattern, within its row's width. The table shows the default `CH_W`. -/
def Statement (i : Instr) : Prop :=
  i.wellFormed Config.chWDefault = true →
    encode Config.chWDefault i &&& mask i = matchBits i ∧ encode Config.chWDefault i < 2 ^ width i

theorem cmdSgl (chan : Nat) : Statement (.cmdSgl chan) := by
  intro h
  have h8 : chan < 8 := by
    have h7 : chan ≤ 7 := by simpa [Instr.wellFormed] using h
    omega
  have key : ∀ c : Fin 8, commandWord c.val &&& 0xFF8FFF = 0x018000 ∧ commandWord c.val < 2 ^ 24 := by decide
  exact key ⟨chan, h8⟩

theorem cmdSgl0 : Statement .cmdSgl0 := fun _ => by decide
theorem cmdSgl1 : Statement .cmdSgl1 := fun _ => by decide
theorem cmdSgl2 : Statement .cmdSgl2 := fun _ => by decide
theorem cmdSgl3 : Statement .cmdSgl3 := fun _ => by decide
theorem cmdSgl4 : Statement .cmdSgl4 := fun _ => by decide
theorem cmdSgl5 : Statement .cmdSgl5 := fun _ => by decide
theorem cmdSgl6 : Statement .cmdSgl6 := fun _ => by decide
theorem cmdSgl7 : Statement .cmdSgl7 := fun _ => by decide

theorem rspFrame (rx : Frame) : Statement (.rspFrame rx) := fun _ => ⟨Nat.and_zero _, rx.toWord_lt⟩

theorem readCh (c : Nat) : Statement (.readCh c) := by
  intro h
  have key : ∀ c : Fin 16, c.val &&& 0x10 = 0x00 ∧ c.val < 2 ^ 5 := by decide
  exact key ⟨c, of_decide_eq_true h⟩

theorem readAll (ignored : Nat) : Statement (.readAll ignored) := by
  intro h
  have key : ∀ x : Fin 16, (2 ^ 4 + x.val) &&& 0x10 = 0x10 ∧ 2 ^ 4 + x.val < 2 ^ 5 := by decide
  exact key ⟨ignored, of_decide_eq_true h⟩

theorem ok : Statement .ok := fun _ => by decide
theorem transferFailed : Statement .transferFailed := fun _ => by decide
theorem invalidChannel : Statement .invalidChannel := fun _ => by decide

end Sys2Proof.Laws.RowMatch
end

