-- ==== Sys2Proof/Tests/Slice0.lean ====
section
/-! SUPPORT. The model's own tests: words written out from the spec's encodings, single steps whose results are taken from
95_test_vectors.md, and for each statement with hypotheses a state that meets them. -/

namespace Sys2Proof.Tests

open Sys2Proof.Machine

/-! Small states -/

/-- A READ_CH accepted, its channel not started. -/
def runCh (c : Nat) : State := { State.reset with phase := .run, op := some .readCh, ch := some c }

/-- The transfer of a READ_CH in flight, an answer at the port or none. -/
def waitCh (c : Channel) (a : Option XEnd) : State :=
  { State.reset with phase := .wait, op := some .readCh, ch := some c.val, tx := some (enc c), xend := a }

/-- `k` entries of a Reading Set, each 9. -/
def accOf (k : Nat) : Vector (Option Sample) 8 :=
  #v[if 0 < k then some 9 else none, if 1 < k then some 9 else none, if 2 < k then some 9 else none,
    if 3 < k then some 9 else none, if 4 < k then some 9 else none, if 5 < k then some 9 else none,
    if 6 < k then some 9 else none, none]

/-- A READ_ALL with channels below `k` read and `k` not started. -/
def runAll (k : Channel) : State := { State.reset with phase := .run, op := some .readAll, k := some k, acc := accOf k.val }

/-- A READ_ALL with the transfer of channel `k` in flight. -/
def waitAll (k : Channel) (a : Option XEnd) : State :=
  { State.reset with
    phase := .wait, op := some .readAll, k := some k, acc := accOf k.val, tx := some (enc k), xend := a }

/-- The next state of an outcome, where it is one. -/
def nextOf : Host.Outcome State Fault Refusal → Option State
  | .next s => some s
  | .fault _ => none
  | .refused _ => none

/-! WellFormed: its checks, with terms they refuse (R55, R57) -/

theorem test_wellFormed_refuses_channel_8 : (Instr.cmdSgl 8).wellFormed 4 = false := by decide
theorem test_wellFormed_accepts_channel_7 : (Instr.cmdSgl 7).wellFormed 4 = true := by decide

/-- A request's `req_ch` has `CH_W` bits (R55): 16 has five; 8 has four, and is no operand at the least width. -/
theorem test_wellFormed_checks_request_width :
    (Instr.readCh 16).wellFormed 4 = false ∧ (Instr.readAll 16).wellFormed 4 = false ∧
    (Instr.readCh 8).wellFormed 3 = false ∧ (Instr.readCh 15).wellFormed 4 = true := by decide

/-! Decoding: words written out bit by bit from 30_encoding.md -/

theorem test_decode_command_frames :
    decode 4 .commandFrame 0b000000011000000000000000 = .ok .cmdSgl0 ∧
    decode 4 .commandFrame 0b000000011001000000000000 = .ok .cmdSgl1 ∧
    decode 4 .commandFrame 0b000000011010000000000000 = .ok .cmdSgl2 ∧
    decode 4 .commandFrame 0b000000011011000000000000 = .ok .cmdSgl3 ∧
    decode 4 .commandFrame 0b000000011100000000000000 = .ok .cmdSgl4 ∧
    decode 4 .commandFrame 0b000000011101000000000000 = .ok .cmdSgl5 ∧
    decode 4 .commandFrame 0b000000011110000000000000 = .ok .cmdSgl6 ∧
    decode 4 .commandFrame 0b000000011111000000000000 = .ok .cmdSgl7 := by decide

/-- The generic row's pattern `00000001 1ccc0000 00000000` with ccc = 101 (R47): its word is that of CMD_SGL5. -/
theorem test_encode_generic_command_frame :
    encode 4 (.cmdSgl 5) = 0b000000011101000000000000 ∧ (Instr.cmdSgl 5).specific = .cmdSgl5 := by decide

/-- The mode bit 0 is no frame of the block (R58); nor is a nonzero low nibble or pad. -/
theorem test_decode_rejects_other_frames :
    decode 4 .commandFrame 0b000000010011000000000000 = .error .notACommandFrame ∧
    decode 4 .commandFrame 0x018100 = .error .notACommandFrame ∧ decode 4 .commandFrame 0x018001 = .error .notACommandFrame ∧
    decode 4 .commandFrame 0x1018000 = .error .tooWide := by decide

theorem test_decode_response_frame :
    decode 4 .responseFrame 0b000100100011010001010110 = .ok (.rspFrame { b0 := 0x12, b1 := 0x34, b2 := 0x56 }) := by decide

theorem test_decode_requests :
    decode 4 .requestWord 0b00101 = .ok (.readCh 5) ∧ decode 4 .requestWord 0b01111 = .ok (.readCh 15) ∧
    decode 4 .requestWord 0b10000 = .ok (.readAll 0) ∧ decode 4 .requestWord 0b11010 = .ok (.readAll 10) ∧
    decode 4 .requestWord 0b100000 = .error .tooWide := by decide

/-- The same at other widths of `req_ch`: `{req_op, req_ch}` in 4 and in 9 bits (R55). -/
theorem test_decode_requests_other_widths :
    decode 3 .requestWord 0b0111 = .ok (.readCh 7) ∧ decode 3 .requestWord 0b1010 = .ok (.readAll 2) ∧
    decode 3 .requestWord 0b10000 = .error .tooWide ∧ decode 8 .requestWord 0b011111111 = .ok (.readCh 255) ∧
    decode 8 .requestWord 0b100000000 = .ok (.readAll 0) := by decide

theorem test_decode_statuses :
    decode 4 .responseStatus 0b00 = .ok .ok ∧ decode 4 .responseStatus 0b01 = .ok .transferFailed ∧
    decode 4 .responseStatus 0b10 = .ok .invalidChannel ∧ decode 4 .responseStatus 0b11 = .error .reservedStatus := by decide

theorem test_decodeTableWord :
    decodeTableWord 24 0x01B000 = some .cmdSgl3 ∧
    decodeTableWord 24 0x000000 = some (.rspFrame { b0 := 0, b1 := 0, b2 := 0 }) ∧
    decodeTableWord 8 0x03 = some (.readCh 3) ∧ decodeTableWord 5 0x10 = some (.readAll 0) ∧
    decodeTableWord 2 1 = some .transferFailed ∧ decodeTableWord 8 0x20 = none := by decide

/-! The codec: vectors EV and DV of 95_test_vectors.md -/

theorem test_enc_EV1_EV4_EV8 :
    enc 0 = { b0 := 0x01, b1 := 0x80, b2 := 0x00 } ∧ enc 3 = { b0 := 0x01, b1 := 0xB0, b2 := 0x00 } ∧
    enc 7 = { b0 := 0x01, b1 := 0xF0, b2 := 0x00 } := by decide

theorem test_dec_vectors :
    dec ⟨0x00, 0x03, 0xFF⟩ = 1023 ∧ dec ⟨0x00, 0xFC, 0x00⟩ = 0 ∧ dec ⟨0x00, 0x04, 0x00⟩ = 0 ∧ dec ⟨0x00, 0x01, 0xFF⟩ = 511 ∧
    dec ⟨0x00, 0x01, 0x00⟩ = 256 ∧ dec ⟨0x00, 0x02, 0x00⟩ = 512 ∧ dec ⟨0x00, 0xAB, 0xCD⟩ = 973 ∧
    dec ⟨0xFF, 0x01, 0xFF⟩ = 511 ∧ dec ⟨0x12, 0x34, 0x56⟩ = 86 := by decide

/-- P4, channel 3: value 256, junk (0x5A, 0x2A). -/
theorem test_reference_device_P4 :
    refDevice #v[0, 1, 255, 256, 511, 512, 1022, 1023] 0x5A 0x2A (enc 3) = some ⟨0x5A, 0xA9, 0x00⟩ := by decide

/-- The device's answer to a frame that is none of the eight is not defined (R72). -/
theorem test_reference_device_other_frame : refDevice (Vector.replicate 8 0) 0 0 ⟨0x01, 0x30, 0x00⟩ = none := by decide

/-- The Sample of channel 1 in bits 19:10 of `rsp_set` (R56). -/
theorem test_packSet : packSet #v[1, 1023, 0, 0, 0, 0, 0, 0] = 0xFFC01 := by decide

/-! Single steps -/

/-- P1, T1. -/
theorem test_readCh_accepted :
    (nextOf (exec (.readCh 3) State.reset)).map (fun t => (t.phase, t.op, t.ch, t.k)) =
      some (.run, some .readCh, some 3, none) := by decide

/-- XV4: a request in WAIT is not accepted; it waits at the port. -/
theorem test_readCh_held_in_wait :
    (nextOf (exec (.readCh 3) (waitCh 5 none))).map (fun t => (t.phase, t.ch, t.req)) =
      some (.wait, some 5, some 0b00011) := by decide

/-- AV7: the ignored bits of READ_ALL. -/
theorem test_readAll_ignores_channel_bits :
    (nextOf (exec (.readAll 10) State.reset)).map (fun t => (t.phase, t.op, t.ch, t.k)) =
      some (.run, some .readAll, none, some 0) := by decide

/-- XV1, T4: the frame [0x01, 0xB0, 0x00] goes out. -/
theorem test_cmdSgl3_starts :
    (nextOf (exec .cmdSgl3 (runCh 3))).map (fun t => (t.phase, t.xstart)) =
      some (.wait, some ⟨0x01, 0xB0, 0x00⟩) := by decide

theorem test_cmdSgl_starts :
    (nextOf (exec (.cmdSgl 7) (runAll 7))).map (fun t => (t.phase, t.xstart)) =
      some (.wait, some ⟨0x01, 0xF0, 0x00⟩) := by decide

/-- The block sends the current channel's frame and no other (R51). -/
theorem test_cmdSgl2_not_produced_for_channel_3 : nextOf (exec .cmdSgl2 (runCh 3)) = none := by decide

/-- CV3, T5: 511. -/
theorem test_rspFrame_ends_readCh :
    (nextOf (exec (.rspFrame ⟨0x00, 0x01, 0xFF⟩) (waitCh 3 none))).map (fun t => (t.phase, t.rsp, t.rx)) =
      some (.idle, some (.sample 511), none) := by decide

/-- P3, T6: Sample 612 stored, next channel. -/
theorem test_rspFrame_goes_on :
    (nextOf (exec (.rspFrame ⟨0x00, 0x02, 0x64⟩) (waitAll 4 none))).map (fun t => (t.phase, t.k, t.acc[4], t.acc[5])) =
      some (.run, some 5, some 612, none) := by decide

/-- T7, with seven Samples of 9 before. -/
theorem test_rspFrame_ends_readAll :
    (nextOf (exec (.rspFrame ⟨0xFF, 0xFF, 0xFF⟩) (waitAll 7 none))).map (fun t => (t.phase, t.rsp)) =
      some (.idle, some (.readingSet #v[9, 9, 9, 9, 9, 9, 9, 1023])) := by decide

/-- CV2 seen at the response port: status OK with 1023. -/
theorem test_ok_responds :
    (nextOf (exec .ok (waitCh 7 (some (.ok ⟨0xFF, 0xFF, 0xFF⟩))))).map (fun t => (t.phase, t.rsp)) =
      some (.idle, some (.sample 1023)) := by decide

/-- No response OK before channel 7. -/
theorem test_ok_not_produced_before_channel_7 :
    nextOf (exec .ok (waitAll 6 (some (.ok ⟨0, 0, 0⟩)))) = none := by decide

/-- P3, T8: the five Samples are gone. -/
theorem test_transferFailed_discards :
    (nextOf (exec .transferFailed (waitAll 5 (some .fail)))).map (fun t => (t.phase, t.rsp, t.acc, t.k)) =
      some (.idle, some .transferFailed, noSamples, none) := by decide

/-- P5, T3: index 9. -/
theorem test_invalidChannel_responds :
    (nextOf (exec .invalidChannel (runCh 9))).map (fun t => (t.phase, t.rsp, t.xstart)) =
      some (.idle, some .invalidChannel, none) := by decide

/-- The step in RUN is the frame of the current channel, or INVALID_CHANNEL: CV5 and P2, k = 1. -/
theorem test_step_in_run :
    (nextOf (step (runCh 8))).map (fun t => t.rsp) = some (some .invalidChannel) ∧
    (nextOf (step (runAll 1))).map (fun t => t.xstart) = some (some ⟨0x01, 0x90, 0x00⟩) := by decide

/-- Each table word that the format tells apart runs as the first instruction. -/
theorem test_withFetchWord :
    step (State.reset.withFetchWord 24 0x01D000) = exec .cmdSgl5 (State.reset.withFetchWord 24 0x01D000) ∧
    step (State.reset.withFetchWord 24 0x0001FF) = exec (.rspFrame ⟨0x00, 0x01, 0xFF⟩) (State.reset.withFetchWord 24 0x0001FF) ∧
    step (State.reset.withFetchWord 8 0x03) = exec (.readCh 3) (State.reset.withFetchWord 8 0x03) ∧
    step (State.reset.withFetchWord 8 0x10) = exec (.readAll 0) (State.reset.withFetchWord 8 0x10) ∧
    step (State.reset.withFetchWord 2 0) = exec .ok (State.reset.withFetchWord 2 0) ∧
    step (State.reset.withFetchWord 2 1) = exec .transferFailed (State.reset.withFetchWord 2 1) ∧
    step (State.reset.withFetchWord 2 2) = exec .invalidChannel (State.reset.withFetchWord 2 2) :=
  ⟨rfl, rfl, rfl, rfl, rfl, rfl, rfl⟩

theorem test_withFetchWord_completes :
    (nextOf (step (State.reset.withFetchWord 24 0x018000))).isSome = true ∧
    (nextOf (step (State.reset.withFetchWord 24 0x000000))).isSome = true ∧
    (nextOf (step (State.reset.withFetchWord 8 0x00))).isSome = true ∧
    (nextOf (step (State.reset.withFetchWord 8 0x10))).isSome = true ∧
    (nextOf (step (State.reset.withFetchWord 2 0))).isSome = true ∧
    (nextOf (step (State.reset.withFetchWord 2 1))).isSome = true ∧
    (nextOf (step (State.reset.withFetchWord 2 2))).isSome = true := by decide

/-- Reset with a transfer in flight has no meaning (U7); in RUN it discards the operation (R119). -/
theorem test_reset_in_wait_and_run :
    step { waitCh 3 none with rst := true } = .refused .resetInFlight ∧
    (nextOf (step { runCh 3 with rst := true })).map (fun t => (t.phase, t.op, t.rsp)) = some (.idle, none, none) :=
  ⟨rfl, by decide⟩

/-- R26: the response OK needs `op`, and of a READ_ALL `k`; where they hold no value the read is the fault. -/
theorem test_ok_faults_without_a_value :
    exec .ok { waitCh 3 (some (.ok ⟨0, 0, 0⟩)) with op := none } = .fault (.noValue .op) ∧
    exec .ok { waitAll 3 (some (.ok ⟨0, 0, 0⟩)) with k := none } = .fault (.noValue .k) := ⟨rfl, rfl⟩

/-- A block of width 8 answers INVALID_CHANNEL for index 255 (R76); one of width 3 reads its word `1010` as READ_ALL. -/
theorem test_other_widths :
    (nextOf (step { State.resetAt 8 with req := some 255 })).map (fun t => (t.ch, t.phase)) = some (some 255, .run) ∧
    (nextOf (steps 2 { State.resetAt 8 with req := some 255 })).map (fun t => t.rsp) = some (some .invalidChannel) ∧
    (nextOf (step { State.resetAt 3 with req := some 0b1010 })).map (fun t => (t.op, t.k)) =
      some (some .readAll, some 0) := by decide

/-! Witnesses: for each statement with hypotheses, a state and operands that meet them; a theorem for each clause -/

theorem witness_ResetAndEndOfOperationLookAlike :
    ∃ t, step (waitCh 7 (some (.ok ⟨0, 3, 255⟩))) = .next t ∧ t.rsp ≠ none := ⟨_, rfl, by decide⟩

theorem witness_ResetDiscardsTheOperation :
    ({ runAll 7 with rst := true } : State).rst = true ∧ ({ runAll 7 with rst := true } : State).phase ≠ .wait ∧
    ({ waitCh 0 none with rst := true } : State).rst = true ∧ ({ waitCh 0 none with rst := true } : State).phase = .wait := by
  decide

theorem witness_OnlyTheEightFramesAreSent :
    ∃ t f, step (runAll 7) = .next t ∧ t.xstart = some f := ⟨_, _, rfl, rfl⟩

theorem witness_DecIgnoresTheOtherBits :
    (⟨0xFF, 0xFF, 0x00⟩ : Frame).b1.extractLsb' 0 2 = (⟨0xA5, 0x03, 0x00⟩ : Frame).b1.extractLsb' 0 2 ∧
    (⟨0xFF, 0xFF, 0x00⟩ : Frame).b2 = (⟨0xA5, 0x03, 0x00⟩ : Frame).b2 ∧
    (⟨0xFF, 0xFF, 0x00⟩ : Frame) ≠ ⟨0xA5, 0x03, 0x00⟩ := by decide

/-- The same two frames, on a state in which the frame has an effect. -/
theorem witness_IgnoredBitsHaveNoEffect :
    (⟨0xFF, 0xFF, 0x00⟩ : Frame).b1.extractLsb' 0 2 = (⟨0xA5, 0x03, 0x00⟩ : Frame).b1.extractLsb' 0 2 ∧
    (⟨0xFF, 0xFF, 0x00⟩ : Frame).b2 = (⟨0xA5, 0x03, 0x00⟩ : Frame).b2 ∧
    (nextOf (exec (.rspFrame ⟨0xFF, 0xFF, 0x00⟩) (waitAll 6 none))).isSome = true := by decide

theorem witness_DecodeOfEncode :
    (Instr.cmdSgl 7).wellFormed 4 = true ∧ (Instr.cmdSgl 0).wellFormed 4 = true ∧ (Instr.readCh 7).wellFormed 3 = true ∧
    (Instr.readAll 15).wellFormed 4 = true := by decide

theorem witness_EncodeOfDecode :
    decode 4 .commandFrame 0x01F000 = .ok .cmdSgl7 ∧ decode 4 .responseFrame 0xFFFFFF = .ok (.rspFrame ⟨0xFF, 0xFF, 0xFF⟩) ∧
    decode 4 .requestWord 0b11111 = .ok (.readAll 15) ∧ decode 4 .responseStatus 2 = .ok .invalidChannel := by decide

theorem witness_DecoderFollowsTheTable :
    (0x01F000 < 2 ^ 24 ∧ 0x01F000 &&& 0xFF8FFF = 0x018000) ∧ (0xFFFFFF < 2 ^ 24 ∧ 0xFFFFFF &&& 0xFF8FFF ≠ 0x018000) ∧
    15 < 2 ^ 4 ∧ (2 ^ 4 ≤ 31 ∧ 31 < 2 ^ (4 + 1)) ∧ (2 ^ 4 ≤ 16 ∧ 16 < 2 ^ (4 + 1)) ∧ 2 ^ (4 + 1) ≤ 32 := by decide

theorem witness_ResponseWordFields : Response.transferFailed.status ≠ .ok := by decide

theorem witness_ResetMeetsTheInvariant : 3 ≤ 3 := by decide

theorem witness_ReadChIsAcceptedOrHeld :
    15 < 2 ^ State.reset.chW ∧ 2 ^ State.reset.chW ≤ 16 ∧ 15 < 2 ^ (runCh 15).chW ∧
    (State.reset.phase = .idle ∧ State.reset.rst = false) ∧ (runCh 15).phase ≠ .idle ∧
    ({ State.reset with rst := true } : State).rst = true := by decide

theorem witness_ReadAllIsAcceptedOrHeld :
    15 < 2 ^ State.reset.chW ∧ 2 ^ State.reset.chW ≤ 16 ∧ 15 < 2 ^ (waitAll 7 none).chW ∧
    (State.reset.phase = .idle ∧ State.reset.rst = false) ∧ (waitAll 7 none).phase ≠ .idle ∧
    ({ State.reset with rst := true } : State).rst = true := by decide

theorem witness_CommandFrameStartsTheTransfer :
    ((runCh 0).phase = .run ∧ (runCh 0).rst = false ∧ (runCh 0).op = some .readCh ∧
      (runCh 0).ch = some (0 : Channel).val) ∧
    ((runCh 7).phase = .run ∧ (runCh 7).rst = false ∧ (runCh 7).op = some .readCh ∧
      (runCh 7).ch = some (7 : Channel).val) ∧
    ((runAll 7).phase = .run ∧ (runAll 7).rst = false ∧ (runAll 7).op = some .readAll ∧ (runAll 7).k = some 7) := by decide

theorem witness_OtherFramesAreNotProduced :
    ((runCh 7).phase = .run ∧ (runCh 7).rst = false ∧ (runCh 7).op = some .readCh ∧ (runCh 7).ch = some 7 ∧
      (7 : Nat) ≠ 6 ∧ (Instr.cmdSgl6, 6) ∈ [(Instr.cmdSgl6, 6), (.cmdSgl7, 7)]) ∧
    ((runCh 8).op = some .readCh ∧ (runCh 8).ch = some 8 ∧ 7 < (8 : Nat)) ∧
    ((runAll 0).op = some .readAll ∧ (runAll 0).k = some 0 ∧ (0 : Channel).val ≠ 1) := by decide

theorem witness_FrameEndsReadCh :
    (waitCh 0 none).phase = .wait ∧ (waitCh 0 none).rst = false ∧ (waitCh 0 none).op = some .readCh := by decide

theorem witness_FrameGoesOnWithReadAll :
    ((waitAll 0 none).phase = .wait ∧ (waitAll 0 none).rst = false ∧ (waitAll 0 none).op = some .readAll ∧
      (waitAll 0 none).k = some 0 ∧ (0 : Channel).val < 7) ∧
    ((waitAll 6 none).phase = .wait ∧ (waitAll 6 none).rst = false ∧ (waitAll 6 none).op = some .readAll ∧
      (waitAll 6 none).k = some 6 ∧ (6 : Channel).val < 7) := by decide

theorem witness_FrameEndsReadAll :
    (waitAll 7 none).phase = .wait ∧ (waitAll 7 none).rst = false ∧ (waitAll 7 none).op = some .readAll ∧
    (waitAll 7 none).k = some 7 ∧
    (∀ i : Channel, i.val < 7 → (waitAll 7 none).acc[i] = some (#v[9, 9, 9, 9, 9, 9, 9, 1023] : Vector Sample 8)[i]) ∧
    (#v[9, 9, 9, 9, 9, 9, 9, 1023] : Vector Sample 8)[7] =
      (⟨0, 3, 255⟩ : Frame).b1.extractLsb' 0 2 ++ (⟨0, 3, 255⟩ : Frame).b2 := by decide

theorem witness_OkRespondsAfterTheLastTransfer :
    ((waitCh 0 (some (.ok ⟨0, 3, 255⟩))).phase = .wait ∧ (waitCh 0 (some (.ok ⟨0, 3, 255⟩))).rst = false ∧
      (waitCh 0 (some (.ok ⟨0, 3, 255⟩))).xend = some (.ok ⟨0, 3, 255⟩) ∧
      (waitCh 0 (some (.ok ⟨0, 3, 255⟩))).op = some .readCh) ∧
    ((waitAll 7 (some (.ok ⟨0, 3, 255⟩))).op = some .readAll ∧ (waitAll 7 (some (.ok ⟨0, 3, 255⟩))).k = some 7 ∧
      ∀ i : Channel, i.val < 7 →
        (waitAll 7 (some (.ok ⟨0, 3, 255⟩))).acc[i] = some (#v[9, 9, 9, 9, 9, 9, 9, 1023] : Vector Sample 8)[i]) ∧
    ((waitAll 6 (some (.ok ⟨0, 3, 255⟩))).op = some .readAll ∧ (waitAll 6 (some (.ok ⟨0, 3, 255⟩))).k = some 6) := by decide

theorem witness_TransferFailureEndsTheOperation :
    (waitAll 7 (some .fail)).phase = .wait ∧ (waitAll 7 (some .fail)).rst = false ∧
    (waitAll 7 (some .fail)).xend = some .fail := by decide

theorem witness_TransferFailedChangesNothingElse :
    (waitCh 7 (some .fail)).phase = .wait ∧ (waitCh 7 (some .fail)).rst = false ∧
    (waitCh 7 (some .fail)).xend = some .fail := by decide

theorem witness_InvalidChannelEndsTheOperation :
    (runCh 8).phase = .run ∧ (runCh 8).rst = false ∧ (runCh 8).op = some .readCh ∧ (runCh 8).ch = some 8 ∧
    7 < (8 : Nat) ∧ (runCh 8).xend = none ∧
    (runCh 15).ch = some 15 ∧ 7 < (15 : Nat) := by decide

theorem witness_InvalidChannelChangesNothingElse :
    (runCh 8).phase = .run ∧ (runCh 8).rst = false ∧ (runCh 8).op = some .readCh ∧ (runCh 8).ch = some 8 ∧
    7 < (8 : Nat) := by decide

theorem witness_EventsOnlyInTheirPhase :
    ((Instr.cmdSgl7).format = .commandFrame ∧ (waitCh 7 none).phase ≠ .run) ∧
    ((Instr.rspFrame ⟨0, 0, 0⟩).format = .responseFrame ∧ (runCh 7).phase ≠ .wait) := by decide

theorem witness_StepRunsTheDecodedWord :
    (runAll 7).rst = false ∧ (runAll 7).strayXend = false ∧
    (runAll 7).fetch = .ok (some (.commandFrame, 0x01F000)) ∧ decode 4 .commandFrame 0x01F000 = .ok .cmdSgl7 :=
  ⟨rfl, rfl, rfl, rfl⟩

theorem witness_StepByPhase :
    (({ State.reset with req := some 0b01111 } : State).req = some 15 ∧ 15 < 2 ^ State.reset.chW ∧
      ({ State.reset with req := some 0b11111 } : State).req = some (2 ^ State.reset.chW + 15) ∧
      2 ^ (State.reset.chW + 1) ≤ 32 ∧ ({ State.reset with req := some 32 } : State).req = some 32) ∧
    ((runCh 8).phase = .run ∧ (runCh 8).xend = none ∧ (runCh 8).ch = some 8 ∧ 7 < (8 : Nat)) ∧
    ((runCh 7).ch = some (7 : Channel).val ∧ (runAll 7).k = some 7) ∧
    ((waitAll 7 (some (.ok ⟨0, 0, 0⟩))).phase = .wait ∧ (waitAll 7 (some (.ok ⟨0, 0, 0⟩))).op = some .readAll ∧
      (waitAll 7 (some (.ok ⟨0, 0, 0⟩))).k = some 7 ∧
      (waitCh 7 (some (.ok ⟨0, 0, 0⟩))).op = some .readCh ∧
      (waitAll 0 (some .fail)).xend = some .fail) := by decide

/-- One state for each row of the table. -/
theorem witness_rows_T1_T2 :
    (∃ t, Transition { State.reset with req := some 0b01111 } t) ∧ (∃ t, Transition { State.reset with req := some 0b11111 } t) :=
  ⟨⟨_, .t1 15 (by decide) rfl rfl⟩, ⟨_, .t2 15 (by decide) rfl rfl⟩⟩

theorem witness_rows_T3_T4 :
    (∃ t, Transition (runCh 8) t) ∧ (∃ t, Transition (runCh 7) t) ∧ (∃ t, Transition (runAll 7) t) :=
  ⟨⟨_, .t3 8 rfl rfl rfl (by decide)⟩, ⟨_, .t4 7 rfl (.inl ⟨rfl, rfl⟩)⟩, ⟨_, .t4 7 rfl (.inr ⟨rfl, rfl⟩)⟩⟩

theorem witness_rows_T5_T8 :
    (∃ t, Transition (waitCh 7 (some (.ok ⟨0, 0, 0⟩))) t) ∧ (∃ t, Transition (waitAll 6 (some (.ok ⟨0, 0, 0⟩))) t) ∧
    (∃ t, Transition (waitAll 7 (some (.ok ⟨0, 0, 0⟩))) t) ∧ (∃ t, Transition (waitAll 7 (some .fail)) t) :=
  ⟨⟨_, .t5 ⟨0, 0, 0⟩ rfl rfl rfl⟩, ⟨_, .t6 ⟨0, 0, 0⟩ 6 rfl rfl rfl rfl (by decide)⟩,
    ⟨_, .t7 ⟨0, 0, 0⟩ #v[9, 9, 9, 9, 9, 9, 9, 0] rfl rfl rfl rfl
      ((readingSet?_eq_some_iff _ _).mp (by decide))⟩, ⟨_, .t8 rfl rfl⟩⟩

theorem witness_StepsAreTheRowsOfTheTable :
    (runCh 7).rst = false ∧ (runCh 7).strayXend = false ∧ ∃ t, step (runCh 7) = .next t := ⟨rfl, rfl, _, rfl⟩

theorem witness_OperationsEndAtTheirResponse :
    (∃ t, step (waitAll 7 (some .fail)) = .next t ∧ t.rsp ≠ none ∧ t.phase = .idle) ∧
    (waitAll 7 (some .fail)).phase ≠ .idle ∧ (waitAll 7 (some .fail)).rst = false :=
  ⟨⟨_, rfl, by decide, rfl⟩, by decide, rfl⟩

theorem witness_RequestsAreAcceptedInIdleOnly :
    ({ runAll 7 with req := some 0b00001 } : State).phase ≠ .idle ∧ ({ runAll 7 with req := some 0b00001 } : State).rst = false ∧
    (∃ t, step { runAll 7 with req := some 0b00001 } = .next t) ∧
    State.reset.phase = .idle ∧ State.reset.rst = false ∧ State.reset.xend = none ∧
    ({ State.reset with req := some 0b01111 } : State).req = some 15 ∧ 15 < 2 ^ State.reset.chW ∧
    ({ State.reset with req := some 0b11111 } : State).req = some (2 ^ State.reset.chW + 15) :=
  ⟨by decide, rfl, ⟨_, rfl⟩, rfl, rfl, rfl, rfl, by decide, rfl⟩

theorem witness_TransferIsNotAbandoned :
    (waitCh 7 none).phase = .wait ∧ (∃ t, step (waitCh 7 none) = .next t) ∧ ∃ t, step (waitCh 7 (some .fail)) = .next t :=
  ⟨rfl, ⟨_, rfl⟩, _, rfl⟩

theorem witness_WaitsWithoutLimit :
    (waitAll 7 none).phase = .wait ∧ (waitAll 7 none).rst = false ∧ (waitAll 7 none).xend = none ∧
    (waitAll 7 none).answers = [] := by decide

theorem witness_IdleBlockDoesNothing :
    State.reset.phase = .idle ∧ State.reset.rst = false ∧ State.reset.xend = none ∧ State.reset.req = none ∧
    State.reset.host.mode = .running ∧ State.reset.host.events = [] := by decide

/-- A READ_CH in RUN, with the record that led there, meets the invariant. -/
def soundRun : State := { runCh 7 with history := [.req (.readCh 7)] }

theorem witness_invariant_in_run : soundRun.Inv := by
  constructor <;>
    simp [soundRun, runCh, State.reset, State.resetAt, State.WidthsAgree, Config.chWMin, Config.chWDefault, State.Live,
      State.PortsAgree, State.RecordAgrees, inFlight, State.OrderKept,
      startedFrames, State.FramesLegal, State.HostAgrees, HostAgent.reset]

/-- A READ_ALL waiting at channel 0, with its record and an answer to come for each transfer, meets the invariant. -/
def soundWait : State :=
  { waitAll 0 none with
    history := [.xstart (enc 0), .req .readAll], answers := List.replicate 8 (.ok ⟨0, 0, 9⟩) }

theorem witness_invariant_in_wait : soundWait.Inv := by
  constructor
  · simp [soundWait, waitAll, State.reset, State.resetAt, State.WidthsAgree, Config.chWMin, Config.chWDefault, HostAgent.reset]
  · refine ⟨rfl, 0, rfl, ?_, rfl⟩
    unfold Collected
    decide
  · simp [soundWait, waitAll, State.reset, State.resetAt, State.PortsAgree]
  · unfold State.RecordAgrees; decide
  · rintro k ⟨⟩
    decide
  · intro f hf
    simp only [soundWait, waitAll, List.mem_cons, Event.xstart.injEq, reduceCtorEq, List.not_mem_nil, or_false] at hf
    exact ⟨0, hf⟩
  · simp [soundWait, waitAll, State.reset, State.resetAt, State.HostAgrees, HostAgent.reset]

theorem witness_StepKeepsTheInvariant : soundRun.Inv ∧ ∃ t, step soundRun = .next t :=
  ⟨witness_invariant_in_run, _, rfl⟩

theorem witness_SoundStateSteps : soundWait.Inv ∧ soundWait.InContract :=
  ⟨witness_invariant_in_wait, by simp [State.InContract, soundWait, waitAll, State.reset, State.resetAt]⟩

theorem witness_StepKeepsTheRecordAlternating :
    soundWait.RecordAgrees ∧ ∃ t, step { soundWait with xend := some .fail } = .next t :=
  ⟨witness_invariant_in_wait.recorded, _, rfl⟩

theorem witness_StepKeepsTheChannelOrder : soundWait.OrderKept ∧ ∃ t, step soundWait = .next t :=
  ⟨witness_invariant_in_wait.ordered, _, rfl⟩

theorem witness_FaultsNameAMissingValue :
    step { runCh 3 with op := none } = .fault (.noValue .op) ∧ step { runCh 3 with ch := none } = .fault (.noValue .ch) ∧
    step { runAll 3 with k := none } = .fault (.noValue .k) ∧
    step { waitAll 7 (some (.ok ⟨0, 0, 0⟩)) with acc := noSamples } = .fault (.noValue .acc) :=
  ⟨rfl, rfl, rfl, rfl⟩

/-- The states of the second half, at the ends of the range of `acc`. -/
theorem witness_FaultsNameAMissingValue_converse :
    ({ runCh 3 with ch := none } : State).phase = .run ∧ ({ runCh 3 with ch := none } : State).rst = false ∧
    ({ waitAll 7 (some (.ok ⟨0, 0, 0⟩)) with acc := noSamples } : State).k = some 7 ∧
    (noSamples[(0 : Channel)] = none ∧ noSamples[(6 : Channel)] = none) := by decide

/-- A step with `rst` asserted, and one without. -/
theorem witness_WidthIsFixed :
    (∃ t, step { State.resetAt 9 with rst := true } = .next t) ∧ ∃ t, step { runAll 3 with chW := 9 } = .next t :=
  ⟨⟨_, rfl⟩, _, rfl⟩

/-- The ready state with a request at the port and answers to come. -/
def readyWith (w : ReqWord) (a : List XEnd) : State := { State.reset with req := some w, answers := a }

theorem readyWith_ready (w : ReqWord) (a : List XEnd) : (readyWith w a).Ready :=
  ⟨rfl, ⟨rfl, rfl, rfl, rfl, rfl, rfl⟩, rfl, rfl⟩

theorem witness_ReadChFromRequestToResponse :
    (readyWith 0b00111 [.ok ⟨0, 3, 255⟩]).Ready ∧ (readyWith 0b00111 [.ok ⟨0, 3, 255⟩]).req = some 7 ∧
    7 < 2 ^ (readyWith 0b00111 [.ok ⟨0, 3, 255⟩]).chW ∧ (7 : Nat) = (7 : Channel).val ∧
    (readyWith 0b00000 [.fail]).req = some 0 ∧
    (readyWith 0b01000 []).req = some 8 ∧ 8 < 2 ^ (readyWith 0b01000 []).chW ∧ 7 < (8 : Nat) :=
  ⟨readyWith_ready _ _, rfl, by decide, by decide, rfl, rfl, by decide, by decide⟩

/-- AV6: eight times Ok [0xFF, 0xFF, 0xFF]. -/
theorem witness_ReadAllDeliversTheReadingSet :
    (readyWith 0b11111 (List.replicate 8 (.ok ⟨0xFF, 0xFF, 0xFF⟩))).Ready ∧
    (readyWith 0b11111 (List.replicate 8 (.ok ⟨0xFF, 0xFF, 0xFF⟩))).req = some (2 ^ 4 + 15) ∧ 15 < 2 ^ 4 ∧
    (readyWith 0b11111 (List.replicate 8 (.ok ⟨0xFF, 0xFF, 0xFF⟩))).answers =
      (Vector.replicate 8 (⟨0xFF, 0xFF, 0xFF⟩ : Frame)).toList.map XEnd.ok ++ [] :=
  ⟨readyWith_ready _ _, by decide, by decide⟩

/-- AV3: failure at channel 0. AV5: failure at channel 7. -/
theorem witness_ReadAllStopsAtTheFirstFailure :
    ((readyWith 0b10000 [.fail]).Ready ∧ (readyWith 0b10000 [.fail]).req = some (2 ^ 4 + 0) ∧ 0 < 2 ^ 4 ∧
      ([] : List Frame).length = (0 : Channel).val ∧ (readyWith 0b10000 [.fail]).answers = ([] : List Frame).map XEnd.ok ++ [.fail]) ∧
    (List.replicate 7 (⟨0, 0, 9⟩ : Frame)).length = (7 : Channel).val ∧
    (readyWith 0b10000 (List.replicate 7 (.ok ⟨0, 0, 9⟩) ++ [.fail])).answers =
      (List.replicate 7 (⟨0, 0, 9⟩ : Frame)).map XEnd.ok ++ [.fail] :=
  ⟨⟨readyWith_ready _ _, by decide, by decide, by decide⟩, by decide, by decide⟩

/-- The device of P4 without junk. -/
def deviceAnswers : List XEnd :=
  [.ok ⟨0, 0, 0⟩, .ok ⟨0, 0, 1⟩, .ok ⟨0, 0, 255⟩, .ok ⟨0, 1, 0⟩, .ok ⟨0, 1, 255⟩, .ok ⟨0, 2, 0⟩, .ok ⟨0, 3, 254⟩,
    .ok ⟨0, 3, 255⟩]

theorem witness_ReadAllReadsTheReferenceDevice :
    (readyWith 0b10000 deviceAnswers).Ready ∧ (readyWith 0b10000 deviceAnswers).req = some (2 ^ 4 + 0) ∧ 0 < 2 ^ 4 ∧
    ∀ c : Channel, ∃ r, refDevice #v[0, 1, 255, 256, 511, 512, 1022, 1023] (Vector.replicate 8 (0 : Byte))[c]
      (Vector.replicate 8 (0 : BitVec 6))[c] (enc c) = some r ∧
      (readyWith 0b10000 deviceAnswers).answers[c.val]? = some (.ok r) := by
  refine ⟨readyWith_ready _ _, by decide, by decide, ?_⟩
  intro c
  have h : ∀ c : Channel, (refDevice #v[0, 1, 255, 256, 511, 512, 1022, 1023] 0 0 (enc c)).map XEnd.ok =
    deviceAnswers[c.val]? ∧ (refDevice #v[0, 1, 255, 256, 511, 512, 1022, 1023] 0 0 (enc c)).isSome = true := by decide
  obtain ⟨h1, h2⟩ := h c
  obtain ⟨r, hr⟩ := Option.isSome_iff_exists.mp h2
  refine ⟨r, by simpa using hr, ?_⟩
  rw [hr] at h1
  exact h1.symm

theorem witness_OperationEndsUnderBusLive :
    soundWait.Inv ∧ soundWait.phase ≠ .idle ∧ soundWait.rst = false ∧ soundWait.BusLive 8 :=
  ⟨witness_invariant_in_wait, by decide, rfl, by unfold State.BusLive; decide⟩

theorem witness_PastDoesNotMatter :
    soundRun.forgetPast = (runCh 7).forgetPast ∧ soundRun ≠ runCh 7 := by decide

theorem witness_BytesNeverInfluenceControl :
    (waitAll 7 (some (.ok ⟨0, 3, 255⟩))).forgetBytes = (waitAll 7 (some (.ok ⟨1, 0, 0⟩))).forgetBytes ∧
    waitAll 7 (some (.ok ⟨0, 3, 255⟩)) ≠ waitAll 7 (some (.ok ⟨1, 0, 0⟩)) :=
  ⟨by simp [State.forgetBytes, waitAll, XEnd.forgetBytes], by decide⟩

/-- The idle state with one event for the host. -/
def hostWith (e : HostEvent) : State := { State.reset with host := { HostAgent.reset with events := [e] } }

theorem witness_RunningHostTakesOneEvent :
    ((hostWith .tick).phase = .idle ∧ (hostWith .tick).rst = false ∧ (hostWith .tick).xend = none ∧
      (hostWith .tick).req = none ∧ (hostWith .tick).host.mode = .running ∧ (hostWith .tick).host.events = [.tick]) ∧
    (hostWith .interrupt).host.events = [.interrupt] ∧ (hostWith (.request 0b11111)).host.events = [.request 0b11111] ∧
    (hostWith .rst).host.events = [.rst] := by decide

theorem witness_TickPrintsOrTerminates :
    ({ HostAgent.reset with polling := true } : HostAgent).polling = true ∧ Response.transferFailed.status ≠ .ok := by decide

/-- A host whose process has ended, with an event still to come. -/
def terminated : State :=
  { State.reset with host := { HostAgent.reset with mode := .terminated .fatal, events := [.tick] } }

theorem witness_TerminatedHostIssuesNothing :
    terminated.HostAgrees ∧ terminated.host.mode = .terminated .fatal ∧ (∃ t, step terminated = .next t) ∧
    terminated.phase = .idle ∧ terminated.rst = false ∧ terminated.req = none :=
  ⟨by simp [State.HostAgrees, terminated, HostAgent.reset], rfl, ⟨_, rfl⟩, rfl, rfl, rfl⟩

/-- HV5: an interrupt pending while channel 2 of a READ_ALL is in flight. -/
theorem witness_HostEventsWaitForTheResponse :
    (waitAll 2 none).phase ≠ .idle ∧
    ∃ t, step { waitAll 2 none with host := { HostAgent.reset with events := [.interrupt] } } = .next t :=
  ⟨by decide, _, rfl⟩

theorem witness_ErrorMarkIsSticky :
    (∃ t r, step (waitCh 7 (some .fail)) = .next t ∧ t.rsp = some r ∧ r.status ≠ .ok ∧ t.host.goneWrong = true) ∧
    (∃ t, step { runCh 7 with host := { HostAgent.reset with goneWrong := true } } = .next t) :=
  ⟨⟨_, _, rfl, rfl, by decide, rfl⟩, _, rfl⟩

theorem witness_ConnectionIsNeverReopened :
    (∃ t, step terminated = .next t) ∧ terminated.host.mode.session = .released ∧
    (∃ t, step (hostWith .interrupt) = .next t) ∧ (hostWith .interrupt).host.mode.session = .connected :=
  ⟨⟨_, rfl⟩, rfl, ⟨_, rfl⟩, rfl⟩

/-- A host at a boot step, with the results still to come. -/
def booting (b : BootStep) (r : List Bool) : State :=
  { State.reset with host := { HostAgent.reset with mode := .booting b, bootResults := r } }

theorem witness_BootReachesTheLoop :
    (booting .busLibraryInit [true, true, true, true]).phase = .idle ∧ (booting .busLibraryInit [true, true, true, true]).rst = false ∧
    (booting .busLibraryInit [true, true, true, true]).xend = none ∧ (booting .busLibraryInit [true, true, true, true]).req = none ∧
    (booting .busLibraryInit [true, true, true, true]).host.mode = .booting .busLibraryInit ∧
    (booting .busLibraryInit [true, true, true, true]).host.bootResults = [true, true, true, true] ++ [] := by decide

theorem witness_FailedBootMakesNoRequest :
    (booting .connect [false]).phase = .idle ∧ (booting .connect [false]).rst = false ∧ (booting .connect [false]).xend = none ∧
    (booting .connect [false]).req = none ∧ (booting .connect [false]).host.mode = .booting .connect ∧
    0 < BootStep.connect.left ∧ (booting .connect [false]).host.bootResults = List.replicate 0 true ++ false :: [] ∧
    3 < BootStep.busLibraryInit.left ∧ ∃ t, steps 1 (booting .connect [false]) = .next t :=
  ⟨rfl, rfl, rfl, rfl, rfl, by decide, rfl, by decide, _, rfl⟩

end Sys2Proof.Tests
end

