-- ==== Sys2Proof/Proofs/Reset.lean ====
section
/-! PROOFS. The reset state (10_state.md R27): what the empty Reading Set holds and what the request port shows after reset. -/

namespace Sys2Proof.Machine

/-- No entry of the empty Reading Set holds a value (R26), wherever it is read. -/
@[simp] theorem noSamples_getElem (i : Nat) (hi : i < 8) : noSamples[i] = none := by
  have hall : noSamples = Vector.replicate 8 none := rfl
  rw [hall, Vector.getElem_replicate]

/-- The request port is ready exactly in IDLE with `rst` not asserted (R125). -/
theorem reqReady_iff (s : State) : s.reqReady = true ↔ s.phase = .idle ∧ s.rst = false := by
  simp [State.reqReady]

/-- The block accepts a request after reset, at every width. -/
@[simp] theorem resetAt_reqReady (n : Nat) : (State.resetAt n).reqReady = true :=
  (reqReady_iff _).mpr ⟨rfl, rfl⟩

/-- Settles O1. `State.resetAt` writes the elements and the event outputs of R27's table out, so those rows hold by
definition; the entries of `acc` and `req_ready` are computed, and hold by the two facts above. -/
theorem resetValuesOfTheTable : Obligations.ResetValuesOfTheTable := by
  unfold Obligations.ResetValuesOfTheTable
  refine ⟨rfl, fun n => ⟨rfl, rfl, rfl, rfl, ?acc, rfl, rfl, ?reqReady, rfl, rfl⟩⟩
  case acc => exact fun i => noSamples_getElem i.val i.isLt
  case reqReady => exact resetAt_reqReady n

end Sys2Proof.Machine
end

