-- ==== Sys2Proof/Proofs/Responses.lean ====
section
/-! PROOFS. The encoding of a response (30_encoding.md R56): its status code and its payload fields. -/

namespace Sys2Proof.Machine

/-- The lowest Sample of a packed word is the one appended last. -/
theorem extractLsb'_append_lowest_sample {n : Nat} (hi : BitVec n) (lo : Sample) :
    (hi ++ lo).extractLsb' (10 * 0) 10 = lo := by
  rw [BitVec.extractLsb'_append_eq_of_add_le (by decide), BitVec.extractLsb'_eq_self]

/-- Appending a Sample below moves every Sample of a packed word up by one place. -/
theorem extractLsb'_append_sample_above {n i : Nat} {hi : BitVec n} {lo x : Sample}
    (h : hi.extractLsb' (10 * i) 10 = x) : (hi ++ lo).extractLsb' (10 * (i + 1)) 10 = x := by
  rw [BitVec.extractLsb'_append_eq_of_le (by omega), Nat.mul_succ, Nat.add_sub_cancel, h]

/-- Channel i has i Samples below it in the packed Reading Set; under those it is the lowest one left, and channel 7, the top,
the only one. -/
theorem packSet_extractLsb' (v : Vector Sample 8) : ∀ i : Channel, (packSet v).extractLsb' (10 * i.val) 10 = v[i]
  | 7 => by
    iterate 7 apply extractLsb'_append_sample_above
    exact BitVec.extractLsb'_eq_self
  | 0 | 1 | 2 | 3 | 4 | 5 | 6 => by
    repeat apply extractLsb'_append_sample_above
    exact extractLsb'_append_lowest_sample _ _

/-- No status has the reserved code (R56). -/
theorem Status.code_ne_reserved (x : Status) : x.code ≠ 3 := by
  cases x <;> decide

/-- A response that is not OK carries no payload (R22, R56). -/
theorem Response.no_payload_of_status_ne_ok (r : Response) (h : r.status ≠ .ok) : r.rspSample = none ∧ r.rspSet = none := by
  cases r with
  | sample v => exact absurd rfl h
  | readingSet v => exact absurd rfl h
  | transferFailed => exact ⟨rfl, rfl⟩
  | invalidChannel => exact ⟨rfl, rfl⟩

/-- Settles O17. The codes and the fields of each kind of response are written out in their definitions; that no status has
code 3, that an error carries nothing, and that each Sample lies at its own place, are the facts above. -/
theorem responseWordFields : Obligations.ResponseWordFields := by
  unfold Obligations.ResponseWordFields
  refine ⟨rfl, rfl, rfl, Status.code_ne_reserved, fun v => ⟨rfl, rfl, rfl⟩, fun v => ⟨rfl, rfl, ?fields⟩,
    Response.no_payload_of_status_ne_ok⟩
  case fields => exact ⟨packSet v, rfl, packSet_extractLsb' v⟩

end Sys2Proof.Machine
end

