-- ==== Sys2Proof/Proofs/FrameCodec.lean ====
section
/-! PROOFS. The frame codec (40_frame_codec.md): the forms of ENC (R63, R64) and of DEC (R67, R68), and the round trip against
the reference device (R72). -/

namespace Sys2Proof.Machine

/-- Byte 1 of a Command Frame as a number (R64): `128 + 16 * c` is at most 240, so the byte holds it. -/
theorem enc_b1_toNat (c : Channel) : (enc c).b1.toNat = 128 + 16 * c.val := by
  rw [enc_bytes, BitVec.toNat_ofNat, Nat.mod_eq_of_lt (by omega)]

/-- The mode bit and the channel selector share no bit, so adding and or-ing them agree (R64). -/
theorem enc_b1_eq_or (c : Channel) : (enc c).b1 = 0x80 ||| (BitVec.ofNat 8 c.val <<< 4) := by
  revert c; decide

/-- The fields of byte 1: the mode bit, the channel and four zeros (R64). -/
theorem enc_b1_eq_fields (c : Channel) : (enc c).b1 = 1#1 ++ BitVec.ofNat 3 c.val ++ 0#4 := by
  revert c; decide

/-- Settles O5. The bytes and the example stand in ENC's definition; the other forms of byte 1 are the facts above. -/
theorem encBuildsTheCommandFrame : Obligations.EncBuildsTheCommandFrame := by
  unfold Obligations.EncBuildsTheCommandFrame
  exact ⟨fun c => ⟨rfl, rfl, rfl, enc_b1_toNat c, enc_b1_eq_or c, enc_b1_eq_fields c⟩, rfl⟩

/-- The 16-bit word that DEC builds is the concatenation of the two bytes. -/
theorem shiftLeft_or_eq_append (r1 r2 : Byte) : (r1.setWidth 16 <<< 8) ||| r2.setWidth 16 = r1 ++ r2 := by
  rw [BitVec.append_def, BitVec.shiftLeftZeroExtend_eq, BitVec.setWidth'_eq]

/-- The mask is all ones in the ten bits that are kept, so it changes none of them (R68). -/
theorem setWidth_and_sampleMask (w : BitVec 16) : (w &&& BitVec.ofNat 16 Config.sampleMask).setWidth 10 = w.setWidth 10 := by
  have hones : (BitVec.ofNat 16 Config.sampleMask).setWidth 10 = BitVec.allOnes 10 := by decide
  rw [BitVec.setWidth_and, hones, BitVec.and_allOnes]

/-- DEC as a concatenation: the low two bits of byte 1, then byte 2 (R68). -/
theorem dec_eq_append (rx : Frame) : dec rx = rx.b1.extractLsb' 0 2 ++ rx.b2 := by
  calc dec rx = (rx.b1 ++ rx.b2).setWidth 10 := by rw [dec, setWidth_and_sampleMask, shiftLeft_or_eq_append]
    _ = rx.b1.setWidth 2 ++ rx.b2 := BitVec.setWidth_append
    _ = rx.b1.extractLsb' 0 2 ++ rx.b2 := by rw [BitVec.setWidth_eq_extractLsb' (by decide)]

/-- DEC in closed form (R68): byte 2 is below 256, so it and the two bits of byte 1 do not overlap. -/
theorem dec_toNat (rx : Frame) : (dec rx).toNat = 256 * (rx.b1.toNat % 4) + rx.b2.toNat := by
  rw [dec_eq_append, BitVec.toNat_append, ← Nat.shiftLeft_add_eq_or_of_lt rx.b2.isLt, BitVec.extractLsb'_toNat,
    Nat.shiftRight_zero, Nat.shiftLeft_eq, Nat.mul_comm]

/-- Settles O8. The formula keeps the low ten bits of the word that DEC masks; the other two forms are the facts above. -/
theorem decIsTheLowTenBits : Obligations.DecIsTheLowTenBits := by
  unfold Obligations.DecIsTheLowTenBits
  refine ⟨fun rx => ⟨?formula, dec_eq_append rx, dec_toNat rx⟩, rfl⟩
  case formula => exact BitVec.setWidth_eq_extractLsb' (by decide)

/-- DEC takes a device's answer apart where the device put it together: the junk is dropped, and the two parts of the value
join again. -/
theorem dec_answerFrame (v : Sample) (j0 : Byte) (j1 : BitVec 6) : dec (answerFrame v j0 j1) = v := by
  calc dec (answerFrame v j0 j1) = (j1 ++ v.extractLsb' 8 2).extractLsb' 0 2 ++ v.extractLsb' 0 8 := dec_eq_append _
    _ = v.extractLsb' 8 2 ++ v.extractLsb' 0 8 := by
      rw [BitVec.extractLsb'_append_eq_of_add_le (by decide), BitVec.extractLsb'_eq_self]
    _ = v.extractLsb' 0 10 := BitVec.extractLsb'_append_extractLsb'_eq_extractLsb' rfl
    _ = v := BitVec.extractLsb'_eq_self

/-- The device reads the channel back out of each of the eight Command Frames. -/
theorem commandChannel?_enc (c : Channel) : commandChannel? (enc c) = some c := by
  have hsel : (⟨((enc c).b1.toNat / 16) % 8, Nat.mod_lt _ (by decide)⟩ : Channel) = c := by
    ext
    simp only [enc_b1_toNat]
    omega
  simp only [commandChannel?, hsel, if_true]

/-- The device answers a Command Frame with the value of the channel it asks for. -/
theorem refDevice_enc (v : Vector Sample 8) (j0 : Byte) (j1 : BitVec 6) (c : Channel) :
    refDevice v j0 j1 (enc c) = some (answerFrame v[c] j0 j1) := by
  rw [refDevice, commandChannel?_enc, Option.map_some]

/-- Settles O12. The answer is the frame of R72, whose bytes stand in its definition. -/
theorem referenceDeviceRoundTrip : Obligations.ReferenceDeviceRoundTrip := by
  unfold Obligations.ReferenceDeviceRoundTrip
  intro v j0 j1 c
  exact ⟨answerFrame v[c] j0 j1, refDevice_enc v j0 j1 c, dec_answerFrame v[c] j0 j1, rfl, rfl, rfl⟩

end Sys2Proof.Machine
end

