-- ==== Sys2Proof/Proofs/ReadOps.lean ====
section
/-! PROOFS. The read operations (41_read_ops.md): how an operation ends. -/

namespace Sys2Proof.Machine

/-- Delivering a response leaves no element holding a value (R87, R96). -/
theorem respond_empty (r : Response) (s : State) : (respond r s).Empty := by
  simp [State.Empty]

/-- Delivering a response records no XSTART event. -/
theorem respond_history_count_xstart (r : Response) (s : State) (f : Frame) :
    (respond r s).history.count (.xstart f) = s.history.count (.xstart f) := by
  rw [respond_history, List.count_cons_of_ne (by simp)]

/-- Where no reset and no stray answer comes first, the step is the meaning of the instruction that the next word decodes to. -/
theorem step_eq_exec {s : State} {f : Format} {w : Nat} {i : Instr} (hrst : s.rst = false) (hstray : s.strayXend = false)
    (hfetch : s.fetch = .ok (some (f, w))) (hdecode : decode s.chW f w = .ok i) : step s = exec i s := by
  simp [step, hrst, hstray, hfetch, hdecode]

/-- In RUN with a current channel above 7 the next word is the status INVALID_CHANNEL (T3 of R86). -/
theorem fetch_run_outOfRange {s : State} (hphase : s.phase = .run) (hcur : s.cur = .ok .outOfRange) :
    s.fetch = .ok (some (.responseStatus, Status.invalidChannel.code.toNat)) := by
  simp [State.fetch, hphase, hcur]

/-- So the step there runs INVALID_CHANNEL. -/
theorem step_run_outOfRange {s : State} (hphase : s.phase = .run) (hrst : s.rst = false) (hxend : s.xend = none)
    (hcur : s.cur = .ok .outOfRange) : step s = exec .invalidChannel s :=
  step_eq_exec hrst (strayXend_false_of_none s hxend) (fetch_run_outOfRange hphase hcur) (decode_status_invalid s.chW)

/-- Settles O28. The range check sends an index above 7 to INVALID_CHANNEL, whose meaning is to deliver the error response;
what that leaves behind is what every response leaves behind. -/
theorem invalidChannelEndsTheOperation : Obligations.InvalidChannelEndsTheOperation := by
  unfold Obligations.InvalidChannelEndsTheOperation
  intro c s hphase hrst hop hch hc
  have hcur : s.cur = .ok .outOfRange := (cur_outOfRange_iff s).mpr ⟨hop, c, hch, hc⟩
  have hexec : exec .invalidChannel s = .next (respond .invalidChannel s) :=
    (exec_invalidChannel_next_iff s _).mpr ⟨hphase, hrst, hcur, rfl⟩
  refine ⟨respond .invalidChannel s, hexec, ?step, respond_phase _ s, respond_empty _ s, respond_xstart _ s,
    respond_history_count_xstart _ s, .invalidChannel, respond_rsp _ s, rfl, rfl, ?noPayload⟩
  case step => exact fun hxend => (step_run_outOfRange hphase hrst hxend hcur).trans hexec
  case noPayload => exact Response.no_payload_of_status_ne_ok .invalidChannel (by decide)

end Sys2Proof.Machine
end

