-- ==== Sys2Proof/Proofs/Exceptions.lean ====
section
/-! PROOFS. The errors (60_exceptions.md): what a failed transfer does to the operation (R90). -/

namespace Sys2Proof.Machine

/-- In WAIT with a failure at the bus port the next word is the status TRANSFER_FAILED (T8 of R86). -/
theorem fetch_wait_fail {s : State} (hphase : s.phase = .wait) (hxend : s.xend = some .fail) :
    s.fetch = .ok (some (.responseStatus, Status.transferFailed.code.toNat)) := by
  simp [State.fetch, hphase, hxend]

/-- So the step there runs TRANSFER_FAILED. -/
theorem step_wait_fail {s : State} (hphase : s.phase = .wait) (hrst : s.rst = false) (hxend : s.xend = some .fail) :
    step s = exec .transferFailed s :=
  step_eq_exec hrst (strayXend_false_of_wait s hphase) (fetch_wait_fail hphase hxend) (decode_status_failed s.chW)

/-- The meaning of TRANSFER_FAILED there is to take the failure from the port and deliver the error response. -/
theorem exec_transferFailed_wait_fail {s : State} (hphase : s.phase = .wait) (hrst : s.rst = false)
    (hxend : s.xend = some .fail) :
    exec .transferFailed s =
      .next (respond .transferFailed { s.quiet with xend := none, history := .xend .fail :: s.history }) :=
  (exec_transferFailed_next_iff s _).mpr ⟨hphase, hrst, hxend, endTransfer_fail s⟩

/-- Settles O26. The step runs TRANSFER_FAILED, whose meaning is to deliver the error response; what that leaves behind is what
every response leaves behind, and an error response has no payload. -/
theorem transferFailureEndsTheOperation : Obligations.TransferFailureEndsTheOperation := by
  unfold Obligations.TransferFailureEndsTheOperation
  intro s hphase hrst hxend
  have hexec := exec_transferFailed_wait_fail hphase hrst hxend
  refine ⟨_, hexec, (step_wait_fail hphase hrst hxend).trans hexec, respond_phase _ _, respond_empty _ _,
    respond_xstart _ _, .transferFailed, respond_rsp _ _, rfl, rfl, ?noPayload⟩
  case noPayload => exact Response.no_payload_of_status_ne_ok .transferFailed (by decide)

end Sys2Proof.Machine
end

section
/-! PROOFS. Reset and hazards (70_reset_and_hazards.md): what a step can do, said once by the rows of R86; from it, what every
response leaves behind (R118) and what becomes of a request that stands at the port (R125). -/

namespace Sys2Proof.Machine

/-- Without `rst`, a step that answers is the turn of an agent, where no word is next, or the meaning of the next word. -/
theorem step_next_cases {s t : State} (hrst : s.rst = false) (hstep : step s = .next t) :
    (s.fetch = .ok none ∧ t = agentTurn s) ∨
      ∃ f w i, s.fetch = .ok (some (f, w)) ∧ decode s.chW f w = .ok i ∧ exec i s = .next t := by
  rw [step, if_neg (by simp [hrst])] at hstep
  split at hstep
  case isTrue => cases hstep
  case isFalse =>
    split at hstep
    next => cases hstep
    next hfetch => exact .inl ⟨hfetch, (Host.Outcome.next.inj hstep).symm⟩
    next f w hfetch =>
      split at hstep
      next => cases hstep
      next i hdecode => exact .inr ⟨f, w, i, hfetch, hdecode, hstep⟩

/-- With `rst` asserted, a step that answers is the reset of the block (R119). -/
theorem step_next_of_rst {s t : State} (hrst : s.rst = true) (hstep : step s = .next t) : t = resetBlock s := by
  rw [step, if_pos hrst, resetTurn] at hstep
  rcases hphase : s.phase with - | - | - <;> rw [hphase] at hstep <;> cases hstep
  case idle | run => rfl

/-- No word is next in IDLE with no request at the port and in WAIT with no answer there, and nowhere else. -/
theorem fetch_none {s : State} (hfetch : s.fetch = .ok none) :
    (s.phase = .idle ∧ s.req = none) ∨ (s.phase = .wait ∧ s.xend = none) := by
  unfold State.fetch at hfetch
  rcases hphase : s.phase with - | - | -
  case idle => exact .inl ⟨rfl, by simpa [hphase] using hfetch⟩
  case run => rcases hcur : s.cur with f | (c | -) <;> simp [hphase, hcur] at hfetch
  case wait =>
    refine .inr ⟨rfl, ?_⟩
    rcases hxend : s.xend with - | (r | -)
    · rfl
    all_goals simp [hphase, hxend] at hfetch

/-- The next word in IDLE is the request at the port. -/
theorem fetch_idle {s : State} {f : Format} {w : Nat} (hphase : s.phase = .idle) (hfetch : s.fetch = .ok (some (f, w))) :
    f = .requestWord ∧ s.req = some w := by
  rcases hreq : s.req with - | v
  · simp [State.fetch, hphase, hreq] at hfetch
  · simpa [State.fetch, hphase, hreq, eq_comm] using hfetch

/-- In IDLE the meaning of the request at the port is T1 or T2. -/
theorem transition_of_exec_idle {s t : State} {f : Format} {w : Nat} {i : Instr} (hphase : s.phase = .idle)
    (hrst : s.rst = false) (hfetch : s.fetch = .ok (some (f, w))) (hdecode : decode s.chW f w = .ok i)
    (hexec : exec i s = .next t) : Transition s t := by
  obtain ⟨rfl, hreq⟩ := fetch_idle hphase hfetch
  have hw : w < 2 ^ (1 + s.chW) := by
    by_contra hge
    rw [decode_request_tooWide _ _ (not_lt.mp hge)] at hdecode
    cases hdecode
  rcases decode_request_cases s.chW w hw with ⟨hc, hreadCh⟩ | ⟨x, hx, rfl, hreadAll⟩
  · cases hreadCh.symm.trans hdecode
    rw [exec_readCh, offerRequest_idle _ _ _ _ hc hphase hrst] at hexec
    cases hexec
    exact .t1 w hc hphase hreq
  · cases hreadAll.symm.trans hdecode
    rw [exec_readAll, offerRequest_idle _ _ _ _ hx hphase hrst] at hexec
    cases hexec
    exact .t2 x hx hphase hreq

/-- In RUN the meaning of the sequencer's own word is T3, for a channel out of range, or T4. -/
theorem transition_of_exec_run {s t : State} {f : Format} {w : Nat} {i : Instr} (hphase : s.phase = .run)
    (hfetch : s.fetch = .ok (some (f, w))) (hdecode : decode s.chW f w = .ok i) (hexec : exec i s = .next t) :
    Transition s t := by
  rcases hcur : s.cur with e | (c | -)
  · simp [State.fetch, hphase, hcur] at hfetch
  · have hword : Format.commandFrame = f ∧ (enc c).toWord.toNat = w := by simpa [State.fetch, hphase, hcur] using hfetch
    obtain ⟨rfl, rfl⟩ := hword
    cases (decode_command_enc s.chW c).symm.trans hdecode
    rw [exec_cmdOf, sendCommand_next_iff] at hexec
    obtain ⟨-, -, d, hd, -, rfl⟩ := hexec
    exact .t4 d hphase ((cur_legal_iff s d).mp hd)
  · cases (fetch_run_outOfRange hphase hcur).symm.trans hfetch
    cases (decode_status_invalid s.chW).symm.trans hdecode
    obtain ⟨-, -, -, rfl⟩ := (exec_invalidChannel_next_iff s t).mp hexec
    obtain ⟨hop, c, hch, h7⟩ := (cur_outOfRange_iff s).mp hcur
    exact .t3 c hphase hop hch h7

/-- The end of a transfer with bytes is T5 after READ_CH, and T6 or T7 after READ_ALL. -/
theorem transition_of_endTransfer_ok {s t : State} {r : Frame} (hphase : s.phase = .wait) (hxend : s.xend = some (.ok r))
    (hend : endTransfer (.ok r) s = .next t) : Transition s t := by
  rcases (endTransfer_ok_next_iff r s t).mp hend with ⟨hop, rfl⟩ | ⟨hop, k, hk, hcollect⟩
  · exact .t5 r hphase hxend hop
  · rcases (collect_next_iff k r _ t).mp hcollect with ⟨h7, rfl⟩ | ⟨rfl, v, hv, rfl⟩
    · exact .t6 r k hphase hxend hop hk h7
    · exact .t7 r v hphase hxend hop hk hv

/-- In WAIT the meaning of the word at the bus port is T5 to T7, for bytes, or T8, for a failure. -/
theorem transition_of_exec_wait {s t : State} {f : Format} {w : Nat} {i : Instr} (hphase : s.phase = .wait)
    (hfetch : s.fetch = .ok (some (f, w))) (hdecode : decode s.chW f w = .ok i) (hexec : exec i s = .next t) :
    Transition s t := by
  rcases hxend : s.xend with - | (r | -)
  · simp [State.fetch, hphase, hxend] at hfetch
  · have hword : Format.responseFrame = f ∧ r.toWord.toNat = w := by simpa [State.fetch, hphase, hxend] using hfetch
    obtain ⟨rfl, rfl⟩ := hword
    cases (decode_response_frame s.chW r).symm.trans hdecode
    obtain ⟨-, -, hend⟩ := (exec_rspFrame_next_iff r s t).mp hexec
    exact transition_of_endTransfer_ok hphase hxend hend
  · cases (fetch_wait_fail hphase hxend).symm.trans hfetch
    cases (decode_status_failed s.chW).symm.trans hdecode
    obtain ⟨-, hrst, -, -⟩ := (exec_transferFailed_next_iff s t).mp hexec
    cases (exec_transferFailed_wait_fail hphase hrst hxend).symm.trans hexec
    exact .t8 hphase hxend

/-- Without `rst`, a step that answers is a row of R86 or the turn of the agent the block waits for. -/
theorem transition_or_agentTurn_of_step {s t : State} (hrst : s.rst = false) (hstep : step s = .next t) :
    Transition s t ∨
      (t = agentTurn s ∧ ((s.phase = .idle ∧ s.req = none) ∨ (s.phase = .wait ∧ s.xend = none))) := by
  rcases step_next_cases hrst hstep with ⟨hfetch, ht⟩ | ⟨f, w, i, hfetch, hdecode, hexec⟩
  · exact .inr ⟨ht, fetch_none hfetch⟩
  · left
    rcases hphase : s.phase with - | - | -
    case idle => exact transition_of_exec_idle hphase hrst hfetch hdecode hexec
    case run => exact transition_of_exec_run hphase hfetch hdecode hexec
    case wait => exact transition_of_exec_wait hphase hfetch hdecode hexec

/-- No agent's turn shows a response. -/
theorem agentTurn_rsp (s : State) : (agentTurn s).rsp = none := by
  unfold agentTurn
  rcases s.phase with - | - | -
  case idle =>
    obtain ⟨-, -, -, -, -, -, -, -, -, -, hrsp, -⟩ := hostTurn_frame s
    exact hrsp
  case run => rfl
  case wait =>
    obtain ⟨-, -, -, -, -, -, -, -, -, -, -, hrsp, -⟩ := busTurn_frame s
    exact hrsp

/-- A row of R86 that shows a response has delivered it. -/
theorem Transition.eq_respond_of_rsp {s t : State} (h : Transition s t) (hrsp : t.rsp ≠ none) :
    ∃ r u, t = respond r u ∧ u.rst = s.rst := by
  cases h with
  | t1 | t2 | t4 | t6 => exact absurd rfl hrsp
  | t3 | t5 | t7 | t8 => exact ⟨_, _, rfl, rfl⟩

/-- Whatever step shows a response has delivered it, with `rst` not asserted. -/
theorem step_eq_respond_of_rsp {s t : State} (hstep : step s = .next t) (hrsp : t.rsp ≠ none) :
    ∃ r u, t = respond r u ∧ u.rst = false := by
  cases hrst : s.rst with
  | true =>
    obtain rfl := step_next_of_rst hrst hstep
    exact absurd (resetBlock_rsp s) hrsp
  | false =>
    rcases transition_or_agentTurn_of_step hrst hstep with hrow | ⟨rfl, -⟩
    · obtain ⟨r, u, ht, hu⟩ := hrow.eq_respond_of_rsp hrsp
      exact ⟨r, u, ht, hu.trans hrst⟩
    · exact absurd (agentTurn_rsp s) hrsp

/-- Settles O2. The rows of the reset state stand in its definition. A step that shows a response has delivered it, and
`respond` puts every element where reset puts it; ready it is because it is in IDLE and no reset came with the response. -/
theorem resetAndEndOfOperationLookAlike : Obligations.ResetAndEndOfOperationLookAlike := by
  unfold Obligations.ResetAndEndOfOperationLookAlike
  refine ⟨fun n => ⟨rfl, ⟨rfl, rfl, rfl, rfl, rfl, rfl⟩, rfl, rfl, rfl, rfl, resetAt_reqReady n⟩, ?response⟩
  case response =>
    intro s t hstep hrsp
    obtain ⟨r, u, rfl, hrst⟩ := step_eq_respond_of_rsp hstep hrsp
    have hready : (respond r u).reqReady = true := (reqReady_iff _).mpr ⟨respond_phase r u, hrst⟩
    exact ⟨rfl, rfl, rfl, rfl, rfl, rfl, rfl, rfl, hready.trans (resetAt_reqReady _).symm⟩

/-- A row of R86 that starts in RUN or WAIT leaves the request at the port and records no REQ. -/
theorem Transition.keeps_request_of_busy {s t : State} (h : Transition s t) (hbusy : s.phase ≠ .idle) :
    t.req = s.req ∧ ∀ r : Request, t.history.count (.req r) = s.history.count (.req r) := by
  cases h with
  | t1 _ _ hphase | t2 _ _ hphase => exact absurd hphase hbusy
  | t3 | t4 | t5 | t6 | t7 | t8 => exact ⟨rfl, fun r => by simp⟩

/-- So does every step from there without `rst`: the agent that steps in WAIT is the bus agent. -/
theorem step_keeps_request_of_busy {s t : State} (hrst : s.rst = false) (hbusy : s.phase ≠ .idle)
    (hstep : step s = .next t) :
    t.req = s.req ∧ ∀ r : Request, t.history.count (.req r) = s.history.count (.req r) := by
  rcases transition_or_agentTurn_of_step hrst hstep with hrow | ⟨rfl, ⟨hidle, -⟩ | ⟨hwait, -⟩⟩
  · exact hrow.keeps_request_of_busy hbusy
  · exact absurd hidle hbusy
  · have hturn : agentTurn s = busTurn s := by simp [agentTurn, hwait]
    obtain ⟨-, -, -, -, -, -, -, -, hreq, -, -, -, -, hhistory⟩ := busTurn_frame s
    rw [hturn, hreq, hhistory]
    exact ⟨rfl, fun _ => rfl⟩

/-- In IDLE the next word is the request at the port, so the step runs the instruction it decodes to. -/
theorem step_idle {s : State} {w : Nat} {i : Instr} (hphase : s.phase = .idle) (hrst : s.rst = false)
    (hxend : s.xend = none) (hreq : s.req = some w) (hdecode : decode s.chW .requestWord w = .ok i) :
    step s = exec i s :=
  step_eq_exec hrst (strayXend_false_of_none s hxend) (by simp [State.fetch, hphase, hreq]) hdecode

/-- READ_CH at the port of an idle block is accepted by the next step. -/
theorem step_idle_readCh {s : State} {c : Nat} (hphase : s.phase = .idle) (hrst : s.rst = false) (hxend : s.xend = none)
    (hc : c < 2 ^ s.chW) (hreq : s.req = some c) : step s = .next (acceptRequest (.readCh c) s) :=
  (step_idle hphase hrst hxend hreq (decode_request_readCh _ c hc)).trans (offerRequest_idle c c _ s hc hphase hrst)

/-- READ_ALL there is accepted likewise, whatever its ignored bits. -/
theorem step_idle_readAll {s : State} {x : Nat} (hphase : s.phase = .idle) (hrst : s.rst = false) (hxend : s.xend = none)
    (hx : x < 2 ^ s.chW) (hreq : s.req = some (2 ^ s.chW + x)) : step s = .next (acceptRequest .readAll s) :=
  (step_idle hphase hrst hxend hreq (decode_request_readAll _ x hx)).trans (offerRequest_idle x _ _ s hx hphase hrst)

/-- Settles O35. The busy block's steps are rows of R86 that leave the port alone, or the bus agent's turn; the idle block's
step takes the word at the port. -/
theorem requestsAreAcceptedInIdleOnly : Obligations.RequestsAreAcceptedInIdleOnly := by
  unfold Obligations.RequestsAreAcceptedInIdleOnly
  intro s hrst
  refine ⟨?ready, fun hbusy t hstep => step_keeps_request_of_busy hrst hbusy hstep,
    fun hphase hxend => ⟨fun c hc hreq => ?readCh, fun x hx hreq => ?readAll⟩⟩
  case ready => rw [reqReady_iff, and_iff_left hrst]
  case readCh => exact ⟨_, step_idle_readCh hphase hrst hxend hc hreq, rfl, rfl, rfl, rfl, rfl⟩
  case readAll => exact ⟨_, step_idle_readAll hphase hrst hxend hx hreq, rfl, rfl, rfl, rfl, rfl⟩

end Sys2Proof.Machine
end

section
/-! PROOFS. The encodings (30_encoding.md): what each port's decoder reads back from an instruction's word, and which words it
accepts. -/

namespace Sys2Proof.Machine

/-- The frame of a channel as a number, field by field (R47). -/
theorem enc_toWord_toNat (c : Channel) : (enc c).toWord.toNat = commandWord c.val := by
  revert c; decide

/-- The word of a channel's specific row is that channel's frame (R51). -/
theorem encode_cmdOf (n : Nat) : ∀ c : Channel, encode n (cmdOf c) = (enc c).toWord.toNat
  | 0 | 1 | 2 | 3 | 4 | 5 | 6 | 7 => rfl

/-- What the other functions of an instruction say of the specific rows. -/
theorem cmdOf_format : ∀ c : Channel, (cmdOf c).format = .commandFrame
  | 0 | 1 | 2 | 3 | 4 | 5 | 6 | 7 => rfl

theorem cmdOf_wellFormed (n : Nat) : ∀ c : Channel, (cmdOf c).wellFormed n = true
  | 0 | 1 | 2 | 3 | 4 | 5 | 6 | 7 => rfl

theorem cmdOf_specific : ∀ c : Channel, (cmdOf c).specific = cmdOf c
  | 0 | 1 | 2 | 3 | 4 | 5 | 6 | 7 => rfl

/-- The generic row of a legal channel decodes as its specific row (log entry 2). -/
theorem decode_encode_cmdSgl {n chan : Nat} (h : chan < 8) :
    decode n .commandFrame (encode n (.cmdSgl chan)) = .ok (Instr.cmdSgl chan).specific := by
  have hword : encode n (.cmdSgl chan) = (enc ⟨chan, h⟩).toWord.toNat := (enc_toWord_toNat ⟨chan, h⟩).symm
  rw [hword, decode_command_enc, Instr.specific, dif_pos h]

/-- Settles O13. Each row's word is one that the laws of its port's decoder name: the frame of a channel, a packed frame, a
request word of either half, a status code. -/
theorem decodeOfEncode : Obligations.DecodeOfEncode := by
  unfold Obligations.DecodeOfEncode
  intro n i hwf
  cases i with
  | cmdSgl chan =>
    have h7 : chan ≤ 7 := of_decide_eq_true hwf
    exact decode_encode_cmdSgl (Nat.lt_succ_of_le h7)
  | cmdSgl0 => exact decode_command_enc n 0
  | cmdSgl1 => exact decode_command_enc n 1
  | cmdSgl2 => exact decode_command_enc n 2
  | cmdSgl3 => exact decode_command_enc n 3
  | cmdSgl4 => exact decode_command_enc n 4
  | cmdSgl5 => exact decode_command_enc n 5
  | cmdSgl6 => exact decode_command_enc n 6
  | cmdSgl7 => exact decode_command_enc n 7
  | rspFrame rx => exact decode_response_frame n rx
  | readCh c => exact decode_request_readCh n c (of_decide_eq_true hwf)
  | readAll x => exact decode_request_readAll n x (of_decide_eq_true hwf)
  | ok | transferFailed | invalidChannel => rfl

/-- The channel field as a quotient (R62). -/
theorem channelBits_val (w : Nat) : (channelBits w).val = w / 2 ^ 12 % 8 :=
  congrArg (· % 8) (Nat.shiftRight_eq_div_pow w 12)

/-- The three bits that the mask of a Command Frame leaves open are the channel. -/
theorem and_channelMask (w : Nat) : w &&& 0x7000 = (channelBits w).val <<< 12 := by
  have hmask : 0x7000 = (2 ^ 3 - 1) <<< 12 := rfl
  have hbits : (channelBits w).val = w >>> 12 &&& (2 ^ 3 - 1) := (Nat.and_two_pow_sub_one_eq_mod (w >>> 12) 3).symm
  rw [hmask, hbits]
  refine Nat.eq_of_testBit_eq fun j => ?_
  simp only [Nat.testBit_and, Nat.testBit_shiftLeft, Nat.testBit_shiftRight]
  by_cases hj : 12 ≤ j
  · simp [hj]
  · simp [hj]

/-- So a 24-bit word of the mask's pattern is the frame of the channel in its bits 14:12 (R62). -/
theorem eq_enc_of_commandMask {w : Nat} (hw : w < 2 ^ 24) (hmask : w &&& 0xFF8FFF = 0x018000) :
    w = (enc (channelBits w)).toWord.toNat := by
  have hfield : ∀ c : Channel, 0x018000 ||| c.val <<< 12 = (enc c).toWord.toNat := by decide
  calc w = w &&& (0xFF8FFF ||| 0x7000) := (Nat.and_two_pow_sub_one_of_lt_two_pow hw).symm
    _ = 0x018000 ||| (channelBits w).val <<< 12 := by rw [Nat.and_or_distrib_left, hmask, and_channelMask]
    _ = (enc (channelBits w)).toWord.toNat := hfield _

/-- The decoder of the command port answers exactly the specific rows, each for its channel's frame. -/
theorem decode_commandFrame_eq_ok {n w : Nat} {i : Instr} (h : decode n .commandFrame w = .ok i) :
    ∃ c : Channel, i = cmdOf c ∧ w = (enc c).toWord.toNat := by
  simp only [decode, decodeCommandFrame] at h
  split at h
  · cases h
  next hw =>
    split at h
    next hframe =>
      obtain ⟨hwidth, hmask⟩ : w < 2 ^ 24 ∧ w &&& 0xFF8FFF = 0x018000 := by simpa [isCommandFrame] using hframe
      cases h
      exact ⟨_, rfl, eq_enc_of_commandMask hwidth hmask⟩
    · cases h

/-- A 24-bit word survives its frame. -/
theorem toWord_ofWord (w : BitVec 24) : (Frame.ofWord w).toWord = w := by
  calc (Frame.ofWord w).toWord = w.extractLsb' 16 8 ++ w.extractLsb' 8 8 ++ w.extractLsb' 0 8 := rfl
    _ = w.extractLsb' 8 16 ++ w.extractLsb' 0 8 := by
      rw [BitVec.extractLsb'_append_extractLsb'_eq_extractLsb' (show 16 = 8 + 8 from rfl)]
    _ = w.extractLsb' 0 24 := BitVec.extractLsb'_append_extractLsb'_eq_extractLsb' rfl
    _ = w := BitVec.extractLsb'_eq_self

/-- The Sample of a Response Frame is its low ten bits (R62). -/
theorem dec_ofWord (w : BitVec 24) : dec (Frame.ofWord w) = w.extractLsb' 0 10 := by
  calc dec (Frame.ofWord w) = (w.extractLsb' 8 8).extractLsb' 0 2 ++ w.extractLsb' 0 8 := dec_eq_append _
    _ = w.extractLsb' 8 2 ++ w.extractLsb' 0 8 := by
      congr 1
      ext j hj
      simp [show j < 8 by omega]
    _ = w.extractLsb' 0 10 := BitVec.extractLsb'_append_extractLsb'_eq_extractLsb' rfl

/-- The response port accepts every 24-bit word, as the frame that packs into it. -/
theorem decode_responseFrame {n w : Nat} (hw : w < 2 ^ 24) :
    decode n .responseFrame w = .ok (.rspFrame (Frame.ofWord (BitVec.ofNat 24 w))) ∧
      (Frame.ofWord (BitVec.ofNat 24 w)).toWord.toNat = w := by
  refine ⟨by simp only [decode, decodeResponseFrame, if_neg (not_le.mpr hw)], ?_⟩
  rw [toWord_ofWord, BitVec.toNat_ofNat, Nat.mod_eq_of_lt hw]

theorem decode_responseFrame_tooWide {n w : Nat} (hw : 2 ^ 24 ≤ w) : decode n .responseFrame w = .error .tooWide := by
  simp only [decode, decodeResponseFrame, if_pos hw]

/-- The status port accepts the codes 0, 1 and 2. -/
theorem decode_responseStatus_eq_ok {n w : Nat} {i : Instr} (h : decode n .responseStatus w = .ok i) :
    (w = 0 ∧ i = .ok) ∨ (w = 1 ∧ i = .transferFailed) ∨ (w = 2 ∧ i = .invalidChannel) := by
  simp only [decode, decodeStatus] at h
  split_ifs at h with hwide h0 h1 h2 <;> cases h
  · exact .inl ⟨h0, rfl⟩
  · exact .inr (.inl ⟨h1, rfl⟩)
  · exact .inr (.inr ⟨h2, rfl⟩)

/-- Settles O14. At each port the accepted words are those of the table, and each is the word of what is answered. -/
theorem encodeOfDecode : Obligations.EncodeOfDecode := by
  unfold Obligations.EncodeOfDecode
  intro n f w i h
  cases f with
  | commandFrame =>
    obtain ⟨c, rfl, rfl⟩ := decode_commandFrame_eq_ok h
    exact ⟨cmdOf_format c, cmdOf_wellFormed n c, cmdOf_specific c, encode_cmdOf n c⟩
  | responseFrame =>
    rcases Nat.lt_or_ge w (2 ^ 24) with hw | hw
    · obtain ⟨hdecode, hword⟩ := decode_responseFrame (n := n) hw
      cases hdecode.symm.trans h
      exact ⟨rfl, rfl, rfl, hword⟩
    · cases (decode_responseFrame_tooWide hw).symm.trans h
  | requestWord =>
    rcases Nat.lt_or_ge w (2 ^ (1 + n)) with hw | hw
    · rcases decode_request_cases n w hw with ⟨hc, hdecode⟩ | ⟨x, hx, rfl, hdecode⟩
      · cases hdecode.symm.trans h
        exact ⟨rfl, decide_eq_true hc, rfl, rfl⟩
      · cases hdecode.symm.trans h
        exact ⟨rfl, decide_eq_true hx, rfl, rfl⟩
    · cases (decode_request_tooWide n w hw).symm.trans h
  | responseStatus =>
    rcases decode_responseStatus_eq_ok h with ⟨rfl, rfl⟩ | ⟨rfl, rfl⟩ | ⟨rfl, rfl⟩ <;> exact ⟨rfl, rfl, rfl, rfl⟩

/-- A 24-bit word without the mask's pattern is no Command Frame (R58). -/
theorem decode_commandFrame_reject {n w : Nat} (hw : w < 2 ^ 24) (hmask : w &&& 0xFF8FFF ≠ 0x018000) :
    decode n .commandFrame w = .error .notACommandFrame := by
  have hframe : isCommandFrame w = false := by simpa [isCommandFrame] using fun _ => hmask
  simp only [decode, decodeCommandFrame, if_neg (not_le.mpr hw), hframe, Bool.false_eq_true, if_false]

/-- Settles O15, port by port. -/
theorem decoderFollowsTheTable : Obligations.DecoderFollowsTheTable := by
  unfold Obligations.DecoderFollowsTheTable
  intro n
  have hwidth : 2 ^ (n + 1) = 2 ^ n + 2 ^ n := by rw [Nat.add_comm, two_pow_reqW]
  refine ⟨fun w hw hmask => ?command, fun w hw hmask => decode_commandFrame_reject hw hmask, fun w hw => ?response,
    fun w hw => decode_request_readCh n w hw, fun w hlow hw => ?readAll,
    fun w hw => decode_request_tooWide n w (by rwa [Nat.add_comm]), rfl, rfl, rfl, rfl⟩
  case command =>
    have hword := eq_enc_of_commandMask hw hmask
    refine ⟨channelBits w, channelBits_val w, hword, ?_⟩
    calc decode n .commandFrame w = decode n .commandFrame (enc (channelBits w)).toWord.toNat := by rw [← hword]
      _ = .ok (cmdOf (channelBits w)) := decode_command_enc n _
  case response =>
    obtain ⟨hdecode, hword⟩ := decode_responseFrame (n := n) hw
    refine ⟨_, hdecode, hword, ?_⟩
    rw [dec_ofWord, BitVec.extractLsb'_toNat, Nat.shiftRight_zero, BitVec.toNat_ofNat, Nat.mod_eq_of_lt hw]
  case readAll =>
    obtain ⟨x, rfl⟩ := Nat.exists_eq_add_of_le hlow
    rw [Nat.add_sub_cancel_left]
    exact decode_request_readAll n x (by omega)

/-- Settles O16: seven closed words, each read by the decoder of its port. -/
theorem wordsOfTheSpecDecode : Obligations.WordsOfTheSpecDecode := by
  unfold Obligations.WordsOfTheSpecDecode
  decide

end Sys2Proof.Machine
end

section
/-! PROOFS. The frame codec again (40_frame_codec.md): what ENC keeps, which bytes DEC reads and how many byte pairs it sends to
each Sample. -/

namespace Sys2Proof.Machine

/-- Byte 1 determines the channel, so ENC is injective (R66). -/
theorem enc_injective {c d : Channel} (h : enc c = enc d) : c = d := by
  have hb1 := congrArg (fun f : Frame => f.b1.toNat) h
  simp only [enc_b1_toNat] at hb1
  ext
  omega

/-- Settles O6. The bytes stand in ENC's definition; the bits of the channel's field, the mode bit and the low nibble are read
off the eight frames. -/
theorem encKeepsTheChannel : Obligations.EncKeepsTheChannel := by
  unfold Obligations.EncKeepsTheChannel
  have hbits : ∀ c : Channel, ((enc c).b1.extractLsb' 4 3).toNat = c.val ∧
      ((enc c).toWord.extractLsb' 12 3).toNat = c.val ∧ (enc c).b1.getLsbD 7 = true ∧
      (enc c).b1.extractLsb' 0 4 = 0 := by decide
  exact fun c => ⟨rfl, rfl, rfl, fun _ h => enc_injective h, hbits c⟩

/-- DEC reads the low two bits of byte 1 and byte 2, and nothing else (R70). -/
theorem dec_eq_of_read_bits_eq {a b : Frame} (h1 : a.b1.extractLsb' 0 2 = b.b1.extractLsb' 0 2) (h2 : a.b2 = b.b2) :
    dec a = dec b := by
  rw [dec_eq_append, dec_eq_append, h1, h2]

/-- Settles O10. -/
theorem decIgnoresTheOtherBits : Obligations.DecIgnoresTheOtherBits := by
  unfold Obligations.DecIgnoresTheOtherBits
  exact fun _ _ => dec_eq_of_read_bits_eq

/-- The pairs of bytes 1 and 2 that decode to `v`: four times a number below 64 plus the high part, and the low part. -/
def decPreimage (v : Sample) (i : Fin 64) : Fin 256 × Fin 256 :=
  (⟨4 * i.val + v.toNat / 256, by omega⟩, ⟨v.toNat % 256, by omega⟩)

theorem decPreimage_injective (v : Sample) : Function.Injective (decPreimage v) := by
  intro i j h
  have hb1 : 4 * i.val + v.toNat / 256 = 4 * j.val + v.toNat / 256 := congrArg (fun p => p.1.val) h
  ext
  omega

/-- DEC in numbers: the pair decodes to `v` exactly when it is one of these. -/
theorem dec_eq_iff_mem_range (r0 : Byte) (p : Fin 256 × Fin 256) (v : Sample) :
    dec ⟨r0, BitVec.ofFin p.1, BitVec.ofFin p.2⟩ = v ↔ ∃ i, decPreimage v i = p := by
  obtain ⟨p1, p2⟩ := p
  have hdec : (dec ⟨r0, BitVec.ofFin p1, BitVec.ofFin p2⟩).toNat = 256 * (p1.val % 4) + p2.val := dec_toNat _
  rw [← BitVec.toNat_inj, hdec]
  constructor
  · intro h
    refine ⟨⟨p1.val / 4, by omega⟩, ?_⟩
    simp only [decPreimage, Prod.mk.injEq, Fin.ext_iff]
    omega
  · rintro ⟨i, hi⟩
    simp only [decPreimage, Prod.mk.injEq, Fin.ext_iff] at hi
    omega

/-- Every Sample is the image of 64 pairs, whatever byte 0 (R69). -/
theorem card_pairs_dec_eq (v : Sample) (r0 : Byte) :
    (Finset.univ.filter fun p : Fin 256 × Fin 256 => dec ⟨r0, BitVec.ofFin p.1, BitVec.ofFin p.2⟩ = v).card = 64 := by
  have himage : (Finset.univ.filter fun p : Fin 256 × Fin 256 => dec ⟨r0, BitVec.ofFin p.1, BitVec.ofFin p.2⟩ = v) =
      Finset.univ.image (decPreimage v) := by
    ext p
    simp [dec_eq_iff_mem_range]
  rw [himage, Finset.card_image_of_injective _ (decPreimage_injective v), Finset.card_univ, Fintype.card_fin]

/-- Byte 0 is free, so there are 256 times as many frames (R69). -/
theorem card_frames_dec_eq (v : Sample) :
    (Finset.univ.filter fun p : Fin 256 × Fin 256 × Fin 256 =>
      dec ⟨BitVec.ofFin p.1, BitVec.ofFin p.2.1, BitVec.ofFin p.2.2⟩ = v).card = 16384 := by
  have hproduct : (Finset.univ.filter fun p : Fin 256 × Fin 256 × Fin 256 =>
      dec ⟨BitVec.ofFin p.1, BitVec.ofFin p.2.1, BitVec.ofFin p.2.2⟩ = v) =
      Finset.univ ×ˢ Finset.univ.filter fun p : Fin 256 × Fin 256 =>
        dec ⟨0, BitVec.ofFin p.1, BitVec.ofFin p.2⟩ = v := by
    ext p
    simp [dec_eq_iff_mem_range]
  rw [hproduct, Finset.card_product, card_pairs_dec_eq, Finset.card_univ, Fintype.card_fin]

/-- Settles O9. DEC has ten bits; the four frames of R69 are evaluated by the concatenation, in which byte 0 has no part; the
preimages are counted above. -/
theorem decRangeAndPreimages : Obligations.DecRangeAndPreimages := by
  unfold Obligations.DecRangeAndPreimages
  refine ⟨fun rx => Nat.le_of_lt_succ (dec rx).isLt, fun x => ?ends,
    fun v => ⟨card_pairs_dec_eq v, card_frames_dec_eq v⟩⟩
  case ends => simp only [dec_eq_append]; decide

end Sys2Proof.Machine
end

section
/-! PROOFS. The step in equations: what it answers in each phase, without the detour through a word and its decoder, and what a
step that answers can have been. -/

namespace Sys2Proof.Machine

/-- What the block does with what stands at its ports, `rst` and a stray answer set apart: the request in IDLE, the current
channel in RUN, the answer in WAIT, and else the turn of the agent it waits for (R12, R86). -/
def State.act (s : State) : Host.Outcome State Fault Refusal :=
  match s.phase with
  | .idle =>
    match s.req with
    | none => .next (hostTurn s)
    | some w =>
      if w < 2 ^ s.chW then .next (acceptRequest (.readCh w) s)
      else if w < 2 ^ (1 + s.chW) then .next (acceptRequest .readAll s)
      else .refused .undecodable
  | .run =>
    match s.cur with
    | .error f => .fault f
    | .ok (.legal c) => .next (startTransfer (enc c) s)
    | .ok .outOfRange => .next (respond .invalidChannel s)
  | .wait =>
    match s.xend with
    | none => .next (busTurn s)
    | some a => endTransfer a s

/-- In RUN with a legal current channel the step sends that channel's frame (T4). -/
theorem step_run_legal {s : State} {c : Channel} (hphase : s.phase = .run) (hrst : s.rst = false) (hxend : s.xend = none)
    (hcur : s.cur = .ok (.legal c)) : step s = exec (cmdOf c) s :=
  step_eq_exec hrst (strayXend_false_of_none s hxend) (by simp [State.fetch, hphase, hcur])
    (decode_command_enc s.chW c)

theorem exec_cmdOf_legal {s : State} {c : Channel} (hphase : s.phase = .run) (hrst : s.rst = false)
    (hcur : s.cur = .ok (.legal c)) : exec (cmdOf c) s = .next (startTransfer (enc c) s) :=
  (exec_cmdOf c s).trans ((sendCommand_next_iff c.val s _).mpr ⟨hphase, hrst, c, hcur, rfl, rfl⟩)

/-- In RUN with a channel above 7 the block responds INVALID_CHANNEL (T3). -/
theorem exec_invalidChannel_outOfRange {s : State} (hphase : s.phase = .run) (hrst : s.rst = false)
    (hcur : s.cur = .ok .outOfRange) : exec .invalidChannel s = .next (respond .invalidChannel s) :=
  (exec_invalidChannel_next_iff s _).mpr ⟨hphase, hrst, hcur, rfl⟩

/-- In WAIT RSP_FRAME ends the transfer. -/
theorem exec_rspFrame_wait {s : State} (r : Frame) (hphase : s.phase = .wait) (hrst : s.rst = false) :
    exec (.rspFrame r) s = endTransfer (.ok r) s := by
  simp [exec, execRspFrame, hphase, hrst]

/-- In WAIT with bytes at the bus port the step runs RSP_FRAME. -/
theorem step_wait_ok {s : State} {r : Frame} (hphase : s.phase = .wait) (hrst : s.rst = false)
    (hxend : s.xend = some (.ok r)) : step s = exec (.rspFrame r) s :=
  step_eq_exec hrst (strayXend_false_of_wait s hphase) (by simp [State.fetch, hphase, hxend])
    (decode_response_frame s.chW r)

/-- Where no word is next, the step is the turn of the agent that the block waits for. -/
theorem step_of_fetch_none {s : State} (hrst : s.rst = false) (hstray : s.strayXend = false) (hfetch : s.fetch = .ok none) :
    step s = .next (agentTurn s) := by
  simp [step, hrst, hstray, hfetch]

theorem step_idle_none {s : State} (hphase : s.phase = .idle) (hrst : s.rst = false) (hxend : s.xend = none)
    (hreq : s.req = none) : step s = .next (hostTurn s) := by
  rw [step_of_fetch_none hrst (strayXend_false_of_none s hxend) (by simp [State.fetch, hphase, hreq]), agentTurn, hphase]

theorem step_wait_none {s : State} (hphase : s.phase = .wait) (hrst : s.rst = false) (hxend : s.xend = none) :
    step s = .next (busTurn s) := by
  rw [step_of_fetch_none hrst (strayXend_false_of_none s hxend) (by simp [State.fetch, hphase, hxend]), agentTurn, hphase]

/-- A number above the width of a request stops the step by name (log entry 3). -/
theorem step_idle_tooWide {s : State} {w : Nat} (hphase : s.phase = .idle) (hrst : s.rst = false) (hxend : s.xend = none)
    (hreq : s.req = some w) (hw : 2 ^ (1 + s.chW) ≤ w) : step s = .refused .undecodable := by
  simp [step, hrst, strayXend_false_of_none s hxend, State.fetch, hphase, hreq, decode_request_tooWide _ w hw]

/-- A fault of the current channel is the fault of the step in RUN. -/
theorem step_run_fault {s : State} {f : Fault} (hphase : s.phase = .run) (hrst : s.rst = false) (hxend : s.xend = none)
    (hcur : s.cur = .error f) : step s = .fault f := by
  simp [step, hrst, strayXend_false_of_none s hxend, State.fetch, hphase, hcur]

/-- The step is the reset, the refusal of a stray answer, or what the block does with its ports. -/
theorem step_eq_act {s : State} (hrst : s.rst = false) (hstray : s.strayXend = false) : step s = s.act := by
  have hport : s.phase ≠ .wait → s.xend = none := fun hp => by
    by_contra hx
    simp [(strayXend_iff s).mpr ⟨hp, hx⟩] at hstray
  unfold State.act
  rcases hphase : s.phase with - | - | -
  case idle =>
    have hxend := hport (by simp [hphase])
    rcases hreq : s.req with - | w
    · exact step_idle_none hphase hrst hxend hreq
    · dsimp only
      split_ifs with hch hall
      · exact step_idle_readCh hphase hrst hxend hch hreq
      · obtain hlow | ⟨x, hx, rfl⟩ := request_word_cases s.chW w hall
        · exact absurd hlow hch
        · exact step_idle_readAll hphase hrst hxend hx hreq
      · exact step_idle_tooWide hphase hrst hxend hreq (not_lt.mp hall)
  case run =>
    have hxend := hport (by simp [hphase])
    rcases hcur : s.cur with f | (c | -)
    · exact step_run_fault hphase hrst hxend hcur
    · exact (step_run_legal hphase hrst hxend hcur).trans (exec_cmdOf_legal hphase hrst hcur)
    · exact (step_run_outOfRange hphase hrst hxend hcur).trans (exec_invalidChannel_outOfRange hphase hrst hcur)
  case wait =>
    rcases hxend : s.xend with - | (r | -)
    · exact step_wait_none hphase hrst hxend
    · exact (step_wait_ok hphase hrst hxend).trans (exec_rspFrame_wait r hphase hrst)
    · exact (step_wait_fail hphase hrst hxend).trans (exec_transferFailed_wait_fail hphase hrst hxend)

theorem step_of_rst_busy {s : State} (hrst : s.rst = true) (hphase : s.phase = .wait) :
    step s = .refused .resetInFlight := by
  simp [step, hrst, resetTurn, hphase]

theorem step_of_rst {s : State} (hrst : s.rst = true) (hphase : s.phase ≠ .wait) : step s = .next (resetBlock s) := by
  rcases hp : s.phase with - | - | -
  case idle | run => simp [step, hrst, resetTurn, hp]
  case wait => exact absurd hp hphase

theorem step_of_strayXend {s : State} (hrst : s.rst = false) (hstray : s.strayXend = true) :
    step s = .refused .strayXend := by
  simp [step, hrst, hstray]

/-- What a step that answers can have been: the reset outside WAIT, a row of R86, or a turn of the host or the bus agent. -/
inductive StepCase (s : State) : State → Prop where
  | reset (hrst : s.rst = true) (hphase : s.phase ≠ .wait) : StepCase s (resetBlock s)
  | row {t : State} (hrst : s.rst = false) (h : Transition s t) : StepCase s t
  | host (hrst : s.rst = false) (hphase : s.phase = .idle) (hreq : s.req = none) : StepCase s (hostTurn s)
  | bus (hrst : s.rst = false) (hphase : s.phase = .wait) (hxend : s.xend = none) : StepCase s (busTurn s)

theorem stepCase_of_step {s t : State} (hstep : step s = .next t) : StepCase s t := by
  cases hrst : s.rst with
  | true =>
    obtain rfl := step_next_of_rst hrst hstep
    refine .reset hrst fun hphase => ?_
    cases (step_of_rst_busy hrst hphase).symm.trans hstep
  | false =>
    rcases transition_or_agentTurn_of_step hrst hstep with hrow | ⟨rfl, ⟨hphase, hreq⟩ | ⟨hphase, hxend⟩⟩
    · exact .row hrst hrow
    · rw [agentTurn, hphase]
      exact .host hrst hphase hreq
    · rw [agentTurn, hphase]
      exact .bus hrst hphase hxend

/-- Settles O4. -/
theorem resetDiscardsTheOperation : Obligations.ResetDiscardsTheOperation := by
  unfold Obligations.ResetDiscardsTheOperation
  exact fun s hrst => ⟨step_of_rst hrst, step_of_rst_busy hrst⟩

/-- Settles O31. -/
theorem stepRunsTheDecodedWord : Obligations.StepRunsTheDecodedWord := by
  unfold Obligations.StepRunsTheDecodedWord
  exact fun s f w i => step_eq_exec

/-- OK names the transition of the operation's last frame (log entry 1). -/
theorem exec_ok_last {s : State} {r : Frame} (hphase : s.phase = .wait) (hrst : s.rst = false)
    (hxend : s.xend = some (.ok r)) (hlast : s.lastTransfer = .ok true) : exec .ok s = exec (.rspFrame r) s := by
  rw [exec_rspFrame_wait r hphase hrst]
  simp [exec, execOk, hphase, hrst, hxend, hlast]

/-- Settles O32. Each clause is the equation of the step for its phase and what stands at its port. -/
theorem stepByPhase : Obligations.StepByPhase := by
  unfold Obligations.StepByPhase
  intro s hrst
  refine ⟨fun hphase hxend => ⟨fun c hc hreq => ?readCh, fun x hx hreq => ?readAll, fun w hw hreq => ?tooWide⟩,
    fun hphase hxend => ⟨fun c hop hch h7 => ?outOfRange, fun c hop hch => ?ch, fun c hop hk => ?k⟩,
    fun hphase => ⟨fun r hxend => ⟨step_wait_ok hphase hrst hxend, fun hlast => ?ok⟩, step_wait_fail hphase hrst⟩⟩
  case readCh => exact step_idle hphase hrst hxend hreq (decode_request_readCh _ c hc)
  case readAll => exact step_idle hphase hrst hxend hreq (decode_request_readAll _ x hx)
  case tooWide => exact step_idle_tooWide hphase hrst hxend hreq (by rwa [Nat.add_comm])
  case outOfRange => exact step_run_outOfRange hphase hrst hxend ((cur_outOfRange_iff s).mpr ⟨hop, c, hch, h7⟩)
  case ch => exact step_run_legal hphase hrst hxend ((cur_legal_iff s c).mpr (.inl ⟨hop, hch⟩))
  case k => exact step_run_legal hphase hrst hxend ((cur_legal_iff s c).mpr (.inr ⟨hop, hk⟩))
  case ok =>
    exact (step_wait_ok hphase hrst hxend).trans (exec_ok_last hphase hrst hxend ((lastTransfer_iff s).mpr hlast)).symm

/-- Each row of the table is what the block does with what stands at its ports. -/
theorem Transition.act_eq {s t : State} (h : Transition s t) : s.act = .next t := by
  unfold State.act
  cases h with
  | t1 c hc hphase hreq => simp [hphase, hreq, hc, acceptRequest, State.quiet]
  | t2 x hx hphase hreq =>
    have hword : 2 ^ s.chW + x < 2 ^ (1 + s.chW) := by rw [two_pow_reqW]; omega
    simp [hphase, hreq, hword, acceptRequest, State.quiet]
  | t3 c hphase hop hch h7 => simp [hphase, (cur_outOfRange_iff s).mpr ⟨hop, c, hch, h7⟩]
  | t4 c hphase hcur => simp [hphase, (cur_legal_iff s c).mpr hcur, startTransfer]
  | t5 r hphase hxend hop =>
    simp only [hphase, hxend]
    exact (endTransfer_ok_next_iff r s _).mpr (.inl ⟨hop, rfl⟩)
  | t6 r k hphase hxend hop hk h7 =>
    simp only [hphase, hxend]
    exact (endTransfer_ok_next_iff r s _).mpr (.inr ⟨hop, k, hk, (collect_next_iff k r _ _).mpr (.inl ⟨h7, rfl⟩)⟩)
  | t7 r v hphase hxend hop hk hv =>
    simp only [hphase, hxend]
    exact (endTransfer_ok_next_iff r s _).mpr
      (.inr ⟨hop, 7, hk, (collect_next_iff 7 r _ _).mpr (.inr ⟨rfl, v, hv, rfl⟩)⟩)
  | t8 hphase hxend => simp only [hphase, hxend]; exact endTransfer_fail s

/-- Settles O33. A row is what the block does, and a step without reset or a stray answer is that; the converse is the inversion
of the step; and what the block does is one thing. -/
theorem stepsAreTheRowsOfTheTable : Obligations.StepsAreTheRowsOfTheTable := by
  unfold Obligations.StepsAreTheRowsOfTheTable
  refine ⟨fun s t hrst hstray h => (step_eq_act hrst hstray).trans h.act_eq,
    fun s t hrst hstep => transition_or_agentTurn_of_step hrst hstep, fun s t u ht hu => ?unique⟩
  case unique => exact Host.Outcome.next.inj (ht.act_eq.symm.trans hu.act_eq)

end Sys2Proof.Machine
end

section
/-! PROOFS. What each instruction does (41_read_ops.md): its whole next state, its stops, and the faults of R26. -/

namespace Sys2Proof.Machine

/-- Settles O18. `acceptRequest` and `holdRequest` write the two next states out. -/
theorem readChIsAcceptedOrHeld : Obligations.ReadChIsAcceptedOrHeld := by
  unfold Obligations.ReadChIsAcceptedOrHeld
  exact fun c s => ⟨offerRequest_idle c c (.readCh c) s, offerRequest_busy c c (.readCh c) s,
    offerRequest_tooWide c c (.readCh c) s⟩

/-- Settles O19, likewise. -/
theorem readAllIsAcceptedOrHeld : Obligations.ReadAllIsAcceptedOrHeld := by
  unfold Obligations.ReadAllIsAcceptedOrHeld
  exact fun x s => ⟨offerRequest_idle x _ .readAll s, offerRequest_busy x _ .readAll s, offerRequest_tooWide x _ .readAll s⟩

/-- Every Command Frame row sends the frame of a channel that its name or operand gives. -/
theorem exec_eq_sendCommand {i : Instr} (h : i.format = .commandFrame) :
    ∃ chan, ∀ s, exec i s = sendCommand chan s := by
  cases i with
  | cmdSgl chan => exact ⟨chan, fun _ => rfl⟩
  | cmdSgl0 => exact ⟨0, fun _ => rfl⟩
  | cmdSgl1 => exact ⟨1, fun _ => rfl⟩
  | cmdSgl2 => exact ⟨2, fun _ => rfl⟩
  | cmdSgl3 => exact ⟨3, fun _ => rfl⟩
  | cmdSgl4 => exact ⟨4, fun _ => rfl⟩
  | cmdSgl5 => exact ⟨5, fun _ => rfl⟩
  | cmdSgl6 => exact ⟨6, fun _ => rfl⟩
  | cmdSgl7 => exact ⟨7, fun _ => rfl⟩
  | rspFrame | readCh | readAll | ok | transferFailed | invalidChannel => cases h

/-- The row of a channel in the list of the nine: the generic one or its own. -/
theorem exec_of_row {i : Instr} {chan : Nat}
    (h : i = .cmdSgl chan ∨
      (i, chan) ∈ [(.cmdSgl0, 0), (.cmdSgl1, 1), (.cmdSgl2, 2), (.cmdSgl3, 3), (.cmdSgl4, 4), (.cmdSgl5, 5), (.cmdSgl6, 6),
        (.cmdSgl7, 7)]) (s : State) : exec i s = sendCommand chan s := by
  simp only [List.mem_cons, Prod.mk.injEq, List.not_mem_nil, or_false] at h
  rcases h with rfl | ⟨rfl, rfl⟩ | ⟨rfl, rfl⟩ | ⟨rfl, rfl⟩ | ⟨rfl, rfl⟩ | ⟨rfl, rfl⟩ | ⟨rfl, rfl⟩ | ⟨rfl, rfl⟩ | ⟨rfl, rfl⟩ <;>
    rfl

/-- Settles O20. In RUN the row of the current channel starts the transfer of its frame, whose bytes are R51's. -/
theorem commandFrameStartsTheTransfer : Obligations.CommandFrameStartsTheTransfer := by
  unfold Obligations.CommandFrameStartsTheTransfer
  intro c i s hrow hphase hrst hcur
  have hrow' := hrow.imp_right (List.mem_map_of_mem (f := Prod.map id Fin.val))
  rw [exec_of_row hrow', ← enc_bytes]
  exact (sendCommand_next_iff c.val s _).mpr ⟨hphase, hrst, c, (cur_legal_iff s c).mpr hcur, rfl, rfl⟩

/-- In RUN a frame is not produced where the current channel is above 7 or another one (log entry 21). -/
theorem sendCommand_notProduced {chan : Nat} {s : State} (hphase : s.phase = .run) (hrst : s.rst = false)
    (hcur : s.cur = .ok .outOfRange ∨ ∃ c : Channel, s.cur = .ok (.legal c) ∧ c.val ≠ chan) :
    sendCommand chan s = .refused .notProduced := by
  rcases hcur with hcur | ⟨c, hcur, hne⟩
  · simp [sendCommand, hphase, hrst, hcur]
  · simp [sendCommand, hphase, hrst, hcur, hne]

/-- Settles O21. A READ_CH of another index is of another channel or out of range. -/
theorem otherFramesAreNotProduced : Obligations.OtherFramesAreNotProduced := by
  unfold Obligations.OtherFramesAreNotProduced
  intro chan i s hrow hphase hrst hother
  rw [exec_of_row hrow]
  refine sendCommand_notProduced hphase hrst ?_
  rcases hother with ⟨hop, c, hch, hne⟩ | ⟨hop, c, hch, h7⟩ | ⟨hop, k, hk, hne⟩
  · rcases Nat.lt_or_ge 7 c with h7 | h7
    · exact .inl ((cur_outOfRange_iff s).mpr ⟨hop, c, hch, h7⟩)
    · exact .inr ⟨⟨c, Nat.lt_succ_of_le h7⟩, (cur_legal_iff s _).mpr (.inl ⟨hop, hch⟩), hne⟩
  · exact .inl ((cur_outOfRange_iff s).mpr ⟨hop, c, hch, h7⟩)
  · exact .inr ⟨k, (cur_legal_iff s k).mpr (.inr ⟨hop, hk⟩), hne⟩

/-- Settles O22. XEND Ok ends a READ_CH with the Sample of R68. -/
theorem frameEndsReadCh : Obligations.FrameEndsReadCh := by
  unfold Obligations.FrameEndsReadCh
  intro r s hphase hrst hop
  rw [← dec_eq_append]
  exact (exec_rspFrame_wait r hphase hrst).trans ((endTransfer_ok_next_iff r s _).mpr (.inl ⟨hop, rfl⟩))

/-- Settles O23. XEND Ok before channel 7 stores the Sample and goes on. -/
theorem frameGoesOnWithReadAll : Obligations.FrameGoesOnWithReadAll := by
  unfold Obligations.FrameGoesOnWithReadAll
  intro r k s hphase hrst hop hk h7
  rw [← dec_eq_append]
  exact (exec_rspFrame_wait r hphase hrst).trans ((endTransfer_ok_next_iff r s _).mpr
    (.inr ⟨hop, k, hk, (collect_next_iff k r _ _).mpr (.inl ⟨h7, rfl⟩)⟩))

/-- The eighth Sample completes a Reading Set of which seven stand in `acc`. -/
theorem set_last_eq_map_some {acc : Vector (Option Sample) 8} {v : Vector Sample 8}
    (hlow : ∀ i : Channel, i.val < 7 → acc[i] = some v[i]) : acc.set 7 (some v[7]) = v.map some := by
  ext1 i hi
  rcases Nat.lt_or_ge i 7 with h7 | h7
  · simpa [Vector.getElem_set, h7.ne'] using hlow ⟨i, hi⟩ h7
  · obtain rfl : i = 7 := by omega
    simp

/-- Settles O24. XEND Ok at channel 7 completes the Reading Set and delivers it. -/
theorem frameEndsReadAll : Obligations.FrameEndsReadAll := by
  unfold Obligations.FrameEndsReadAll
  intro r v s hphase hrst hop hk hlow hlast
  rw [← dec_eq_append] at hlast
  have hset : s.acc.set 7 (some (dec r)) = v.map some := hlast ▸ set_last_eq_map_some hlow
  exact (exec_rspFrame_wait r hphase hrst).trans ((endTransfer_ok_next_iff r s _).mpr
    (.inr ⟨hop, 7, hk, (collect_next_iff 7 r _ _).mpr (.inr ⟨rfl, v, hset, rfl⟩)⟩))

/-- Before channel 7 of a READ_ALL no OK is produced (log entry 21). -/
theorem exec_ok_notProduced {s : State} {r : Frame} (hphase : s.phase = .wait) (hrst : s.rst = false)
    (hxend : s.xend = some (.ok r)) (hlast : s.lastTransfer = .ok false) : exec .ok s = .refused .notProduced := by
  simp [exec, execOk, hphase, hrst, hxend, hlast]

/-- Settles O25. At the operation's last transfer OK is RSP_FRAME with the bytes at the port. -/
theorem okRespondsAfterTheLastTransfer : Obligations.OkRespondsAfterTheLastTransfer := by
  unfold Obligations.OkRespondsAfterTheLastTransfer
  intro r s hphase hrst hxend
  refine ⟨fun hop => ?readCh, fun v hop hk hlow hlast => ?readAll, fun k hop hk h7 => ?earlier⟩
  case readCh =>
    exact (exec_ok_last hphase hrst hxend ((lastTransfer_iff s).mpr (.inl hop))).trans (frameEndsReadCh r s hphase hrst hop)
  case readAll =>
    exact (exec_ok_last hphase hrst hxend ((lastTransfer_iff s).mpr (.inr ⟨hop, hk⟩))).trans
      (frameEndsReadAll r v s hphase hrst hop hk hlow hlast)
  case earlier =>
    have hk7 : k ≠ 7 := by rintro rfl; exact absurd h7 (by decide)
    exact exec_ok_notProduced hphase hrst hxend (by simp [State.lastTransfer, hop, hk, hk7])

/-- Settles O27. -/
theorem transferFailedChangesNothingElse : Obligations.TransferFailedChangesNothingElse := by
  unfold Obligations.TransferFailedChangesNothingElse
  exact fun s => exec_transferFailed_wait_fail

/-- Settles O29. -/
theorem invalidChannelChangesNothingElse : Obligations.InvalidChannelChangesNothingElse := by
  unfold Obligations.InvalidChannelChangesNothingElse
  intro c s hphase hrst hop hch h7
  exact exec_invalidChannel_outOfRange hphase hrst ((cur_outOfRange_iff s).mpr ⟨hop, c, hch, h7⟩)

/-- Settles O30. Each of these meanings asks first whether its phase is on. -/
theorem eventsOnlyInTheirPhase : Obligations.EventsOnlyInTheirPhase := by
  unfold Obligations.EventsOnlyInTheirPhase
  refine fun i s => ⟨fun h hphase => ?run, fun h hphase => ?wait⟩
  case run =>
    rcases h with h | rfl
    · obtain ⟨chan, hexec⟩ := exec_eq_sendCommand h
      simp [hexec, sendCommand, hphase]
    · simp [exec, execInvalidChannel, hphase]
  case wait =>
    rcases h with h | rfl | rfl
    · cases i with
      | rspFrame r => simp [exec, execRspFrame, hphase]
      | _ => cases h
    · simp [exec, execOk, hphase]
    · simp [exec, execTransferFailed, hphase]

/-! The faults of R26 -/

/-- The element holds no value; of `acc`, an entry below the last, which a collection still needs. -/
def State.Lacks (s : State) (e : Element) : Prop :=
  match e with
  | .op => s.op = none
  | .ch => s.ch = none
  | .k => s.k = none
  | .acc => ∃ i : Channel, i.val < 7 ∧ s.acc[i] = none

/-- A fault of `cur` names an element that holds no value. -/
theorem lacks_of_cur {s : State} {e : Element} (h : s.cur = .error (.noValue e)) : s.Lacks e := by
  rcases (cur_error_iff s _).mp h with ⟨he, hop⟩ | ⟨he, -, hch⟩ | ⟨he, -, hk⟩ <;> cases he
  · exact hop
  · exact hch
  · exact hk

theorem lacks_of_lastTransfer {s : State} {e : Element} (h : s.lastTransfer = .error (.noValue e)) : s.Lacks e := by
  rcases (lastTransfer_error_iff s _).mp h with ⟨he, hop⟩ | ⟨he, -, hk⟩ <;> cases he
  · exact hop
  · exact hk

/-- A Command Frame faults in RUN, where `cur` does. -/
theorem sendCommand_fault_iff {chan : Nat} {s : State} {f : Fault} :
    sendCommand chan s = .fault f ↔ s.phase = .run ∧ s.rst = false ∧ s.cur = .error f := by
  unfold sendCommand
  split
  next h =>
    rcases s.cur with g | (c | -)
    · simp [(enabled_iff _ _).mp h]
    · dsimp only
      split_ifs <;> simp
    · simp
  next h =>
    simp only [reduceCtorEq, false_iff]
    rintro ⟨hphase, hrst, -⟩
    exact h ((enabled_iff _ _).mpr ⟨hphase, hrst⟩)

theorem exec_invalidChannel_fault_iff {s : State} {f : Fault} :
    exec .invalidChannel s = .fault f ↔ s.phase = .run ∧ s.rst = false ∧ s.cur = .error f := by
  simp only [exec, execInvalidChannel]
  split
  next h => rcases s.cur with g | (c | -) <;> simp [(enabled_iff _ _).mp h]
  next h =>
    simp only [reduceCtorEq, false_iff]
    rintro ⟨hphase, hrst, -⟩
    exact h ((enabled_iff _ _).mpr ⟨hphase, hrst⟩)

/-- An entry that is still missing after channel 7 was stored is one below it. -/
theorem set_last_lacks_iff (acc : Vector (Option Sample) 8) (v : Sample) :
    (∃ i : Channel, (acc.set 7 (some v))[i] = none) ↔ ∃ i : Channel, i.val < 7 ∧ acc[i] = none := by
  constructor
  · rintro ⟨i, hi⟩
    rcases Nat.lt_or_ge i.val 7 with h7 | h7
    · exact ⟨i, h7, by simpa [Vector.getElem_set, h7.ne'] using hi⟩
    · have : i.val = 7 := by omega
      simp [this] at hi
  · rintro ⟨i, h7, hi⟩
    exact ⟨i, by simpa [Vector.getElem_set, h7.ne'] using hi⟩

/-- The collection faults at channel 7 only, where an entry of the Reading Set is missing. -/
theorem collect_fault_iff {k : Channel} {r : Frame} {s : State} {f : Fault} :
    collect k r s = .fault f ↔ f = .noValue .acc ∧ k = 7 ∧ s.Lacks .acc := by
  rcases Nat.lt_or_ge k.val 7 with h7 | h7
  · have hk : k ≠ 7 := by rintro rfl; exact absurd h7 (by decide)
    simp [collect, h7, hk]
  · obtain rfl : k = 7 := by ext; change k.val = 7; omega
    have hset : readingSet? (s.acc.set 7 (some (dec r))) = none ↔ s.Lacks .acc :=
      (readingSet?_eq_none_iff _).trans (set_last_lacks_iff _ _)
    have hcollect : collect 7 r s = match readingSet? (s.acc.set 7 (some (dec r))) with
      | none => .fault (.noValue .acc)
      | some v => .next (respond (.readingSet v) { s with rx := some r, acc := s.acc.set 7 (some (dec r)) }) := rfl
    rw [hcollect, ← hset]
    rcases readingSet? (s.acc.set 7 (some (dec r))) with - | v
    · simp [eq_comm]
    · simp

/-- The end of a transfer with bytes faults where `op` or `k` holds no value or the Reading Set is not complete. -/
theorem endTransfer_ok_fault_iff {r : Frame} {s : State} {f : Fault} :
    endTransfer (.ok r) s = .fault f ↔
      (f = .noValue .op ∧ s.op = none) ∨ (s.op = some .readAll ∧
        ((f = .noValue .k ∧ s.k = none) ∨ (f = .noValue .acc ∧ s.k = some 7 ∧ s.Lacks .acc))) := by
  rcases hop : s.op with - | - | -
  · simp [endTransfer, hop, eq_comm]
  · simp [endTransfer, hop]
  · rcases hk : s.k with - | k
    · simp [endTransfer, hop, hk, eq_comm]
    · simp only [endTransfer, hop, hk, collect_fault_iff]
      simp [State.Lacks]

theorem lacks_of_endTransfer {a : XEnd} {s : State} {e : Element} (h : endTransfer a s = .fault (.noValue e)) : s.Lacks e := by
  cases a with
  | fail => cases h
  | ok r =>
    rcases endTransfer_ok_fault_iff.mp h with ⟨he, hop⟩ | ⟨-, ⟨he, hk⟩ | ⟨he, -, hacc⟩⟩ <;> cases he
    · exact hop
    · exact hk
    · exact hacc

/-- Every fault of a meaning names an element that holds no value. -/
theorem lacks_of_exec {i : Instr} {s : State} {e : Element} (h : exec i s = .fault (.noValue e)) : s.Lacks e := by
  have hsend : i.format = .commandFrame → s.Lacks e := fun hi => by
    obtain ⟨chan, hexec⟩ := exec_eq_sendCommand hi
    obtain ⟨-, -, hcur⟩ := sendCommand_fault_iff.mp ((hexec s).symm.trans h)
    exact lacks_of_cur hcur
  have hoffer : ∀ ch w r, offerRequest ch w r s ≠ .fault (.noValue e) := fun ch w r => by
    unfold offerRequest
    split_ifs <;> simp
  cases i with
  | cmdSgl | cmdSgl0 | cmdSgl1 | cmdSgl2 | cmdSgl3 | cmdSgl4 | cmdSgl5 | cmdSgl6 | cmdSgl7 => exact hsend rfl
  | readCh c => exact absurd h (hoffer _ _ _)
  | readAll x => exact absurd h (hoffer _ _ _)
  | rspFrame r =>
    simp only [exec, execRspFrame] at h
    split at h
    · exact lacks_of_endTransfer h
    · cases h
  | ok =>
    simp only [exec, execOk] at h
    split at h
    · split at h
      · split at h
        next hlast =>
          cases h
          exact lacks_of_lastTransfer hlast
        · exact lacks_of_endTransfer h
        · cases h
      · cases h
      · cases h
    · cases h
  | transferFailed =>
    simp only [exec, execTransferFailed] at h
    split at h
    · split at h <;> cases h
    · cases h
  | invalidChannel =>
    obtain ⟨-, -, hcur⟩ := exec_invalidChannel_fault_iff.mp h
    exact lacks_of_cur hcur

/-- So does every fault of the step. -/
theorem lacks_of_step {s : State} {e : Element} (h : step s = .fault (.noValue e)) : s.Lacks e := by
  cases hrst : s.rst with
  | true =>
    rcases hphase : s.phase with - | - | - <;> simp [step, hrst, resetTurn, hphase] at h
  | false =>
    cases hstray : s.strayXend with
    | true => cases (step_of_strayXend hrst hstray).symm.trans h
    | false =>
      rw [step_eq_act hrst hstray, State.act] at h
      rcases hphase : s.phase with - | - | - <;> simp only [hphase] at h
      case idle =>
        split at h
        · cases h
        · split_ifs at h
      case run =>
        split at h
        next hcur =>
          cases h
          exact lacks_of_cur hcur
        · cases h
        · cases h
      case wait =>
        split at h
        · cases h
        · exact lacks_of_endTransfer h

/-- In RUN the meanings that read `cur` fault where it does. -/
theorem exec_fault_of_cur {i : Instr} {s : State} {f : Fault} (hphase : s.phase = .run) (hrst : s.rst = false)
    (hi : i.format = .commandFrame ∨ i = .invalidChannel) (hcur : s.cur = .error f) : exec i s = .fault f := by
  rcases hi with hi | rfl
  · obtain ⟨chan, hexec⟩ := exec_eq_sendCommand hi
    exact (hexec s).trans (sendCommand_fault_iff.mpr ⟨hphase, hrst, hcur⟩)
  · exact exec_invalidChannel_fault_iff.mpr ⟨hphase, hrst, hcur⟩

/-- In WAIT the meanings that end a transfer with bytes fault where the end of the transfer does. -/
theorem exec_fault_of_endTransfer {i : Instr} {r : Frame} {s : State} {f : Fault} (hphase : s.phase = .wait)
    (hrst : s.rst = false) (hi : i = .rspFrame r ∨ (i = .ok ∧ s.xend = some (.ok r)))
    (hlast : s.lastTransfer = .error f ∨ s.lastTransfer = .ok true) (hend : endTransfer (.ok r) s = .fault f) :
    exec i s = .fault f := by
  rcases hi with rfl | ⟨rfl, hxend⟩
  · exact (exec_rspFrame_wait r hphase hrst).trans hend
  · rcases hlast with hlast | hlast
    · simp [exec, execOk, hphase, hrst, hxend, hlast]
    · rw [exec_ok_last hphase hrst hxend hlast, exec_rspFrame_wait r hphase hrst, hend]

/-- Settles O43. One way is read off the faults of the step and of each meaning; the other gives, for each missing element, the
read that meets it. -/
theorem faultsNameAMissingValue : Obligations.FaultsNameAMissingValue := by
  unfold Obligations.FaultsNameAMissingValue
  refine ⟨fun s e h => ?named, fun s hrst => ⟨fun hphase i hi => ⟨fun hop => ?runOp, fun hop hch => ?runCh, fun hop hk => ?runK⟩,
    fun hphase r i hi => ⟨fun hop => ?waitOp, fun hop hk => ?waitK, fun hop hk hacc => ?waitAcc⟩⟩⟩
  case named =>
    have hlacks : s.Lacks e := by
      rcases h with h | ⟨i, h⟩
      · exact lacks_of_step h
      · exact lacks_of_exec h
    cases e <;> exact hlacks
  case runOp => exact exec_fault_of_cur hphase hrst hi ((cur_error_iff s _).mpr (.inl ⟨rfl, hop⟩))
  case runCh => exact exec_fault_of_cur hphase hrst hi ((cur_error_iff s _).mpr (.inr (.inl ⟨rfl, hop, hch⟩)))
  case runK => exact exec_fault_of_cur hphase hrst hi ((cur_error_iff s _).mpr (.inr (.inr ⟨rfl, hop, hk⟩)))
  case waitOp =>
    exact exec_fault_of_endTransfer hphase hrst hi (.inl ((lastTransfer_error_iff s _).mpr (.inl ⟨rfl, hop⟩)))
      (endTransfer_ok_fault_iff.mpr (.inl ⟨rfl, hop⟩))
  case waitK =>
    exact exec_fault_of_endTransfer hphase hrst hi (.inl ((lastTransfer_error_iff s _).mpr (.inr ⟨rfl, hop, hk⟩)))
      (endTransfer_ok_fault_iff.mpr (.inr ⟨hop, .inl ⟨rfl, hk⟩⟩))
  case waitAcc =>
    exact exec_fault_of_endTransfer hphase hrst hi (.inr ((lastTransfer_iff s).mpr (.inr ⟨hop, hk⟩)))
      (endTransfer_ok_fault_iff.mpr (.inr ⟨hop, .inr ⟨rfl, hk, hacc⟩⟩))

end Sys2Proof.Machine
end

section
/-! PROOFS. What every step keeps, in every state: the frames sent, the end of an operation, the width, the record of transfers
and their order. Each is read off the cases of a step. -/

namespace Sys2Proof.Machine

/-! What the turns of the agents leave in each field -/

@[simp] theorem hostTurn_chW (s : State) : (hostTurn s).chW = s.chW := by
  obtain ⟨h, -⟩ := hostTurn_frame s; exact h
@[simp] theorem hostTurn_phase (s : State) : (hostTurn s).phase = s.phase := by
  obtain ⟨-, h, -⟩ := hostTurn_frame s; exact h
@[simp] theorem hostTurn_op (s : State) : (hostTurn s).op = s.op := by
  obtain ⟨-, -, h, -⟩ := hostTurn_frame s; exact h
@[simp] theorem hostTurn_ch (s : State) : (hostTurn s).ch = s.ch := by
  obtain ⟨-, -, -, h, -⟩ := hostTurn_frame s; exact h
@[simp] theorem hostTurn_k (s : State) : (hostTurn s).k = s.k := by
  obtain ⟨-, -, -, -, h, -⟩ := hostTurn_frame s; exact h
@[simp] theorem hostTurn_acc (s : State) : (hostTurn s).acc = s.acc := by
  obtain ⟨-, -, -, -, -, h, -⟩ := hostTurn_frame s; exact h
@[simp] theorem hostTurn_tx (s : State) : (hostTurn s).tx = s.tx := by
  obtain ⟨-, -, -, -, -, -, h, -⟩ := hostTurn_frame s; exact h
@[simp] theorem hostTurn_rx (s : State) : (hostTurn s).rx = s.rx := by
  obtain ⟨-, -, -, -, -, -, -, h, -⟩ := hostTurn_frame s; exact h
@[simp] theorem hostTurn_xend (s : State) : (hostTurn s).xend = s.xend := by
  obtain ⟨-, -, -, -, -, -, -, -, h, -⟩ := hostTurn_frame s; exact h
@[simp] theorem hostTurn_xstart (s : State) : (hostTurn s).xstart = none := by
  obtain ⟨-, -, -, -, -, -, -, -, -, h, -⟩ := hostTurn_frame s; exact h
@[simp] theorem hostTurn_rsp (s : State) : (hostTurn s).rsp = none := by
  obtain ⟨-, -, -, -, -, -, -, -, -, -, h, -⟩ := hostTurn_frame s; exact h
@[simp] theorem hostTurn_history (s : State) : (hostTurn s).history = s.history := by
  obtain ⟨-, -, -, -, -, -, -, -, -, -, -, -, h⟩ := hostTurn_frame s; exact h

@[simp] theorem busTurn_chW (s : State) : (busTurn s).chW = s.chW := by
  obtain ⟨h, -⟩ := busTurn_frame s; exact h
@[simp] theorem busTurn_phase (s : State) : (busTurn s).phase = s.phase := by
  obtain ⟨-, h, -⟩ := busTurn_frame s; exact h
@[simp] theorem busTurn_op (s : State) : (busTurn s).op = s.op := by
  obtain ⟨-, -, h, -⟩ := busTurn_frame s; exact h
@[simp] theorem busTurn_ch (s : State) : (busTurn s).ch = s.ch := by
  obtain ⟨-, -, -, h, -⟩ := busTurn_frame s; exact h
@[simp] theorem busTurn_k (s : State) : (busTurn s).k = s.k := by
  obtain ⟨-, -, -, -, h, -⟩ := busTurn_frame s; exact h
@[simp] theorem busTurn_acc (s : State) : (busTurn s).acc = s.acc := by
  obtain ⟨-, -, -, -, -, h, -⟩ := busTurn_frame s; exact h
@[simp] theorem busTurn_tx (s : State) : (busTurn s).tx = s.tx := by
  obtain ⟨-, -, -, -, -, -, h, -⟩ := busTurn_frame s; exact h
@[simp] theorem busTurn_rx (s : State) : (busTurn s).rx = s.rx := by
  obtain ⟨-, -, -, -, -, -, -, h, -⟩ := busTurn_frame s; exact h
@[simp] theorem busTurn_req (s : State) : (busTurn s).req = s.req := by
  obtain ⟨-, -, -, -, -, -, -, -, h, -⟩ := busTurn_frame s; exact h
@[simp] theorem busTurn_rst (s : State) : (busTurn s).rst = s.rst := by
  obtain ⟨-, -, -, -, -, -, -, -, -, h, -⟩ := busTurn_frame s; exact h
@[simp] theorem busTurn_xstart (s : State) : (busTurn s).xstart = none := by
  obtain ⟨-, -, -, -, -, -, -, -, -, -, h, -⟩ := busTurn_frame s; exact h
@[simp] theorem busTurn_rsp (s : State) : (busTurn s).rsp = none := by
  obtain ⟨-, -, -, -, -, -, -, -, -, -, -, h, -⟩ := busTurn_frame s; exact h
@[simp] theorem busTurn_host (s : State) : (busTurn s).host = s.host := by
  obtain ⟨-, -, -, -, -, -, -, -, -, -, -, -, h, -⟩ := busTurn_frame s; exact h
@[simp] theorem busTurn_history (s : State) : (busTurn s).history = s.history := by
  obtain ⟨-, -, -, -, -, -, -, -, -, -, -, -, -, h⟩ := busTurn_frame s; exact h

/-! Facts over all states -/

/-- Settles O60. -/
theorem widthIsFixed : Obligations.WidthIsFixed := by
  unfold Obligations.WidthIsFixed
  intro s t hstep
  cases stepCase_of_step hstep with
  | reset => rfl
  | row _ hrow => cases hrow <;> rfl
  | host => exact hostTurn_chW s
  | bus => exact busTurn_chW s

/-- XSTART is shown by T4 alone, with a channel's frame. -/
theorem xstart_of_step {s t : State} {f : Frame} (hstep : step s = .next t) (hxstart : t.xstart = some f) :
    ∃ c : Channel, f = enc c := by
  cases stepCase_of_step hstep with
  | reset => cases hxstart
  | row _ hrow =>
    cases hrow with
    | t4 c => exact ⟨c, (Option.some.inj hxstart).symm⟩
    | t1 | t2 | t3 | t5 | t6 | t7 | t8 => cases hxstart
  | host => cases (hostTurn_xstart s).symm.trans hxstart
  | bus => cases (busTurn_xstart s).symm.trans hxstart

/-- Settles O7. The eight words are evaluated; an XSTART event is T4's. -/
theorem onlyTheEightFramesAreSent : Obligations.OnlyTheEightFramesAreSent := by
  unfold Obligations.OnlyTheEightFramesAreSent
  exact ⟨by decide, fun s t f => xstart_of_step⟩

/-- A row of R86 shows a response exactly where it leads to IDLE, and then from a busy block. -/
theorem Transition.rsp_cases {s t : State} (h : Transition s t) :
    (t.rsp = none ∧ t.phase ≠ .idle) ∨ (s.phase ≠ .idle ∧ t.rsp ≠ none ∧ t.phase = .idle ∧ t.Empty) := by
  cases h with
  | t1 | t2 | t4 | t6 => exact .inl ⟨rfl, by simp⟩
  | t3 _ hphase | t5 _ hphase | t7 _ _ hphase | t8 hphase =>
    exact .inr ⟨by simp [hphase], by simp, respond_phase _ _, respond_empty _ _⟩

/-- Settles O34. The rows that deliver a response are those that lead to IDLE; an agent's turn leaves the phase. -/
theorem operationsEndAtTheirResponse : Obligations.OperationsEndAtTheirResponse := by
  unfold Obligations.OperationsEndAtTheirResponse
  intro s t hstep
  cases stepCase_of_step hstep with
  | reset hrst => exact ⟨fun h => absurd rfl h, fun _ hrst' => by simp [hrst] at hrst'⟩
  | row _ hrow =>
    rcases hrow.rsp_cases with ⟨hrsp, hphase⟩ | ⟨hbusy, hrsp, hidle, hempty⟩
    · exact ⟨fun h => absurd hrsp h, fun _ _ h => absurd h hphase⟩
    · exact ⟨fun _ => ⟨hbusy, hidle, hempty⟩, fun _ _ _ => hrsp⟩
  | host _ hphase => exact ⟨fun h => absurd (hostTurn_rsp s) h, fun h => absurd hphase h⟩
  | bus _ hphase =>
    exact ⟨fun h => absurd (busTurn_rsp s) h, fun _ _ h => by simp [hphase] at h⟩

/-- Settles O36. From WAIT the step is one of T5 to T8, which take the answer, or the bus agent's turn. -/
theorem transferIsNotAbandoned : Obligations.TransferIsNotAbandoned := by
  unfold Obligations.TransferIsNotAbandoned
  intro s t hwait hstep
  cases stepCase_of_step hstep with
  | reset _ hphase => exact absurd hwait hphase
  | host _ hphase => cases hphase.symm.trans hwait
  | bus => exact .inl (by simp [hwait])
  | row _ hrow =>
    cases hrow with
    | t1 _ _ hphase | t2 _ _ hphase | t3 _ hphase | t4 _ hphase => cases hphase.symm.trans hwait
    | t5 _ _ hxend | t7 _ _ _ hxend =>
      exact .inr ⟨_, hxend, rfl, by simp, rfl, fun h => (by cases h), .inr ⟨_, rfl⟩⟩
    | t6 _ _ _ hxend => exact .inr ⟨_, hxend, rfl, by simp, rfl, fun h => (by cases h), .inl rfl⟩
    | t8 _ hxend =>
      exact .inr ⟨_, hxend, rfl, by simp, rfl, fun _ => ⟨rfl, respond_empty _ _, by simp⟩, .inr ⟨_, rfl⟩⟩

/-- Settles O41. T4 records the start and T5 to T8 the end of a transfer, and each changes whether the phase is WAIT; no other
step does either. -/
theorem stepKeepsTheRecordAlternating : Obligations.StepKeepsTheRecordAlternating := by
  unfold Obligations.StepKeepsTheRecordAlternating
  intro s t hrecord hstep
  unfold State.RecordAgrees at hrecord ⊢
  cases stepCase_of_step hstep with
  | reset _ hphase => simpa [inFlight, hphase] using hrecord
  | host => simpa using hrecord
  | bus => simpa using hrecord
  | row _ hrow =>
    cases hrow with
    | t1 _ _ hphase | t2 _ _ hphase | t3 _ hphase | t4 _ hphase | t5 _ hphase | t6 _ _ hphase | t7 _ _ hphase | t8 hphase =>
      simp [inFlight, hrecord, hphase]

/-- The frames below the next channel are those below this one and this one's. -/
theorem framesBelow_succ (c : Channel) : framesBelow (c.val + 1) = enc c :: framesBelow c.val := by
  revert c; decide

theorem channel_succ_val {k : Channel} (h : k.val < 7) : (k + 1).val = k.val + 1 := by
  rw [Fin.val_add, Nat.mod_eq_of_lt (by change k.val + 1 < 8; omega)]
  rfl

/-- T4 in the order of the transfers: the current channel's frame is the next. -/
theorem orderKept_startTransfer {s : State} {c : Channel} (hphase : s.phase = .run) (horder : s.OrderKept)
    (hcur : (s.op = some .readCh ∧ s.ch = some c.val) ∨ (s.op = some .readAll ∧ s.k = some c)) :
    (startTransfer (enc c) s).OrderKept := by
  rcases hcur with ⟨hop, hch⟩ | ⟨hop, hk⟩
  · have hstarted : startedFrames s.history = [] := by simpa [State.OrderKept, hphase, hop] using horder
    have hsame : ∀ d : Channel, c.val = d.val → enc c = enc d := fun d hd => congrArg enc (Fin.ext hd)
    simpa [State.OrderKept, startedFrames, hop, hch, hstarted] using hsame
  · have hstarted : startedFrames s.history = framesBelow c.val := by
      simpa [State.OrderKept, hphase, hop, hk] using horder
    simp [State.OrderKept, startedFrames, hop, hk, hstarted, framesBelow_succ]

/-- Settles O42. A request starts with no frame, T4 sends the frame of the current channel, T6 goes to the next channel; in IDLE
nothing is asked. -/
theorem stepKeepsTheChannelOrder : Obligations.StepKeepsTheChannelOrder := by
  unfold Obligations.StepKeepsTheChannelOrder
  intro s t horder hstep
  cases stepCase_of_step hstep with
  | reset => simp [State.OrderKept]
  | host _ hphase => simp [State.OrderKept, hphase]
  | bus => simpa [State.OrderKept] using horder
  | row _ hrow =>
    cases hrow with
    | t1 => simp [State.OrderKept, startedFrames]
    | t2 => simp [State.OrderKept, startedFrames, framesBelow]
    | t3 | t5 | t7 | t8 => simp [State.OrderKept]
    | t4 c hphase hcur => exact orderKept_startTransfer hphase horder hcur
    | t6 r k hphase hxend hop hk h7 =>
      have hstarted : startedFrames s.history = framesBelow (k.val + 1) := by
        simpa [State.OrderKept, hphase, hop, hk] using horder
      simp [State.OrderKept, startedFrames, hop, hstarted, channel_succ_val h7]

end Sys2Proof.Machine
end

section
/-! PROOFS. The invariant of the system: it holds at reset, every step keeps each of its parts, a sound state always steps, and
under BUS_LIVE every operation ends. -/

namespace Sys2Proof.Machine

/-! What the host's own turn and its taking of a response can do -/

/-- The host waits, ends a boot step, or takes one event of its loop. -/
theorem hostTurn_cases (s : State) :
    hostTurn s = s.quiet ∨
      (∃ b, s.host.mode = .booting b ∧ hostTurn s = { s.quiet with host := s.host.bootStep b }) ∨
      (s.host.mode = .running ∧ ∃ e es, s.host.events = e :: es ∧ hostTurn s = hostEvent e es s.quiet) := by
  rcases hmode : s.host.mode with b | - | x
  · exact .inr (.inl ⟨b, rfl, by simp [hostTurn, hmode]⟩)
  · rcases hevents : s.host.events with - | ⟨e, es⟩
    · exact .inl (by simp [hostTurn, hmode, hevents])
    · exact .inr (.inr ⟨rfl, e, es, rfl, hostTurn_event s e es hmode hevents⟩)
  · exact .inl (hostTurn_terminated s x hmode)

/-- A boot step waits for its result, goes on, or ends the host's process (R121, R122). -/
theorem bootStep_cases (b : BootStep) (h : HostAgent) :
    (h.bootResults = [] ∧ h.bootStep b = h) ∨
      (∃ rest, h.bootResults = true :: rest ∧ h.bootStep b = { h with mode := b.after, bootResults := rest }) ∨
      (∃ rest, h.bootResults = false :: rest ∧ h.bootStep b = { h with
        mode := .terminated .fatal, bootResults := rest, console := h.console ++ [.errorMessage] }) := by
  unfold HostAgent.bootStep
  rcases h.bootResults with - | ⟨_ | _, rest⟩
  · exact .inl ⟨rfl, rfl⟩
  · exact .inr (.inr ⟨rest, rfl, rfl⟩)
  · exact .inr (.inl ⟨rest, rfl, rfl⟩)

@[simp] theorem bootStep_polling (b : BootStep) (h : HostAgent) : (h.bootStep b).polling = h.polling := by
  rcases bootStep_cases b h with ⟨-, heq⟩ | ⟨rest, -, heq⟩ | ⟨rest, -, heq⟩ <;> rw [heq]

@[simp] theorem bootStep_events (b : BootStep) (h : HostAgent) : (h.bootStep b).events = h.events := by
  rcases bootStep_cases b h with ⟨-, heq⟩ | ⟨rest, -, heq⟩ | ⟨rest, -, heq⟩ <;> rw [heq]

/-- Taking a response leaves the host's mode, but for an error inside a tick, which ends its process (R101, R104). -/
theorem take_mode (r : Response) (h : HostAgent) :
    (h.take r).mode = if h.polling && r.isError then .terminated .fatal else h.mode := by
  cases hp : h.polling with
  | false => rw [take_not_polling r h hp]; rfl
  | true => cases r <;> simp [HostAgent.take, hp, Response.isError]

/-! The parts of the invariant -/

/-- No Sample is collected before the first transfer. -/
theorem collected_zero : Collected 0 noSamples := by
  unfold Collected
  decide

/-- The Sample of channel `k` extends the Reading Set by one. -/
theorem collected_succ {k : Channel} {acc : Vector (Option Sample) 8} (v : Sample) (h7 : k.val < 7)
    (hcollected : Collected k acc) : Collected (k + 1) (acc.set k.val (some v)) := by
  intro i
  have hlt : i < k + 1 ↔ i.val < k.val + 1 := by rw [Fin.lt_def, channel_succ_val h7]
  rcases eq_or_ne k.val i.val with heq | hne
  · simp [heq, hlt]
  · have hold := hcollected i
    simp only [Fin.getElem_fin, Vector.getElem_set_ne _ _ hne, hlt] at hold ⊢
    rw [hold, decide_eq_decide, Fin.lt_def]
    omega

/-- Every step keeps which elements hold a value in each phase. -/
theorem step_keeps_live {s t : State} (hlive : s.Live) (hstep : step s = .next t) : t.Live := by
  cases stepCase_of_step hstep with
  | reset => exact ⟨rfl, rfl, rfl, rfl, rfl, rfl⟩
  | host _ hphase =>
    have hempty : s.Empty := by simpa [State.Live, hphase] using hlive
    simpa [State.Live, hphase, State.Empty] using hempty
  | bus => simpa [State.Live, State.Empty] using hlive
  | row _ hrow =>
    cases hrow with
    | t1 c _ hphase =>
      obtain ⟨-, -, hk, hacc, htx, hrx⟩ : s.Empty := by simpa [State.Live, hphase] using hlive
      exact ⟨rfl, hk, hacc, htx, hrx⟩
    | t2 x _ hphase =>
      obtain ⟨-, hch, -, hacc, -, -⟩ : s.Empty := by simpa [State.Live, hphase] using hlive
      exact ⟨hch, 0, rfl, hacc ▸ collected_zero⟩
    | t3 | t5 | t7 | t8 => exact respond_empty _ _
    | t4 c hphase hcur =>
      rcases hcur with ⟨hop, hch⟩ | ⟨hop, hk⟩
      · simp only [State.Live, hphase, hop] at hlive ⊢
        obtain ⟨-, hk, hacc, -, hrx⟩ := hlive
        exact ⟨hk, hacc, hrx, c, hch, rfl⟩
      · simp only [State.Live, hphase, hop] at hlive ⊢
        obtain ⟨hch, d, hd, hcollected⟩ := hlive
        cases hk.symm.trans hd
        exact ⟨hch, c, hk, hcollected, rfl⟩
    | t6 r k hphase _ hop hk h7 =>
      simp only [State.Live, hphase, hop] at hlive ⊢
      obtain ⟨hch, d, hd, hcollected, -⟩ := hlive
      cases hk.symm.trans hd
      exact ⟨hch, k + 1, rfl, collected_succ _ h7 hcollected⟩

/-- Every step keeps the ports in agreement with the phase. -/
theorem step_keeps_portsAgree {s t : State} (hports : s.PortsAgree) (hstep : step s = .next t) : t.PortsAgree := by
  obtain ⟨hxend, -, -⟩ := hports
  cases stepCase_of_step hstep with
  | reset => simp [State.PortsAgree]
  | host => simpa [State.PortsAgree] using hxend
  | bus _ hphase => simp [State.PortsAgree, hphase]
  | row _ hrow =>
    cases hrow with
    | t1 _ _ hphase | t2 _ _ hphase | t3 _ hphase | t4 _ hphase =>
      have hnone : s.xend = none := by simpa [hphase] using hxend
      simp [State.PortsAgree, hnone]
    | t5 | t6 | t7 | t8 => simp [State.PortsAgree]

/-- Every step keeps the record to the eight frames. -/
theorem step_keeps_framesLegal {s t : State} (hframes : s.FramesLegal) (hstep : step s = .next t) : t.FramesLegal := by
  cases stepCase_of_step hstep with
  | reset => simpa [State.FramesLegal] using hframes
  | host => simpa [State.FramesLegal] using hframes
  | bus => simpa [State.FramesLegal] using hframes
  | row _ hrow =>
    cases hrow with
    | t4 c =>
      intro f hf
      rcases List.mem_cons.mp hf with heq | hf
      · exact ⟨c, Event.xstart.inj heq⟩
      · exact hframes f hf
    | t1 | t2 | t3 | t5 | t6 | t7 | t8 => simpa [State.FramesLegal] using hframes

/-- The word of a tick is a request word of the width. -/
theorem tickWord_lt (n : Nat) : tickWord n < 2 ^ (1 + n) := Nat.pow_lt_pow_right (by decide) (by omega)

/-- The host puts only words of the width at the request port. -/
theorem hostTurn_keeps_widths {s : State} (hwidths : s.WidthsAgree) (hreq : s.req = none) : (hostTurn s).WidthsAgree := by
  obtain ⟨hmin, -, hevents, hch⟩ := hwidths
  rcases hostTurn_cases s with heq | ⟨b, -, heq⟩ | ⟨-, e, es, hes, heq⟩ <;> rw [heq]
  · exact ⟨hmin, by simp [hreq], hevents, hch⟩
  · exact ⟨hmin, by simp [hreq], by simpa using hevents, hch⟩
  · have hrest : ∀ w, HostEvent.request w ∈ es → w < 2 ^ (1 + s.chW) := fun w hw =>
      hevents w (hes ▸ List.mem_cons_of_mem e hw)
    cases e with
    | request w =>
      have hw : w < 2 ^ (1 + s.chW) := hevents w (hes ▸ List.mem_cons_self)
      exact ⟨hmin, by simpa [hostEvent] using hw, hrest, hch⟩
    | tick => exact ⟨hmin, by simpa [hostEvent] using tickWord_lt s.chW, hrest, hch⟩
    | interrupt | rst => exact ⟨hmin, by simp [hostEvent, hreq], hrest, hch⟩

/-- Every step keeps the words and the index within the width. -/
theorem step_keeps_widthsAgree {s t : State} (hwidths : s.WidthsAgree) (hstep : step s = .next t) : t.WidthsAgree := by
  obtain ⟨hmin, hreq, hevents, hch⟩ := hwidths
  cases stepCase_of_step hstep with
  | reset => exact ⟨hmin, by simp, hevents, by simp⟩
  | host _ _ hnone => exact hostTurn_keeps_widths ⟨hmin, hreq, hevents, hch⟩ hnone
  | bus => simpa [State.WidthsAgree] using ⟨hmin, hreq, hevents, hch⟩
  | row _ hrow =>
    cases hrow with
    | t1 c hc => exact ⟨hmin, by simp, hevents, fun d hd => by cases hd; exact hc⟩
    | t2 => exact ⟨hmin, by simp, hevents, hch⟩
    | t3 | t5 | t7 | t8 => exact ⟨hmin, hreq, by simpa using hevents, by simp⟩
    | t4 | t6 => exact ⟨hmin, hreq, hevents, hch⟩

/-- A response ends the wait of the host, and no host is booting while the block is busy. -/
theorem respond_hostAgrees {r : Response} {u s : State} (hhost : s.HostAgrees) (hbusy : s.phase ≠ .idle)
    (hsame : u.host = s.host) : (respond r u).HostAgrees := by
  obtain ⟨-, hboot⟩ := hhost
  refine ⟨by simp, fun b hb => ?_⟩
  rw [respond_host, hsame, take_mode] at hb
  split at hb
  · cases hb
  · obtain ⟨hidle, -⟩ := hboot b hb
    exact absurd hidle hbusy

/-- The host's own turn starts the wait with its READ_ALL, and boots with nothing at the port. -/
theorem hostTurn_hostAgrees {s : State} (hhost : s.HostAgrees) (hphase : s.phase = .idle) (hreq : s.req = none) :
    (hostTurn s).HostAgrees := by
  obtain ⟨hpoll, -⟩ := hhost
  have hnot : s.host.polling = false := by
    by_contra hp
    obtain ⟨-, hword, -⟩ := hpoll (by simpa using hp)
    cases hreq.symm.trans (hword hphase)
  rcases hostTurn_cases s with heq | ⟨b, -, heq⟩ | ⟨hmode, e, es, -, heq⟩ <;> rw [heq]
  · simp [State.HostAgrees, hnot, hphase, hreq]
  · simp [State.HostAgrees, hnot, hphase, hreq]
  · cases e <;> simp [State.HostAgrees, hostEvent, hnot, hphase, hmode]

/-- Every step keeps the host in agreement with the block. -/
theorem step_keeps_hostAgrees {s t : State} (hhost : s.HostAgrees) (hstep : step s = .next t) : t.HostAgrees := by
  obtain ⟨hpoll, hboot⟩ := hhost
  cases stepCase_of_step hstep with
  | reset => simp [State.HostAgrees]
  | host _ hphase hreq => exact hostTurn_hostAgrees ⟨hpoll, hboot⟩ hphase hreq
  | bus => simpa [State.HostAgrees] using ⟨hpoll, hboot⟩
  | row _ hrow =>
    cases hrow with
    | t1 c hc hphase hreq =>
      refine ⟨fun hp => ?_, fun b hb => ?_⟩
      · obtain ⟨-, hword, -⟩ := hpoll hp
        have heq : c = 2 ^ s.chW := Option.some.inj (hreq.symm.trans (hword hphase))
        omega
      · obtain ⟨-, hnone⟩ := hboot b hb
        cases hreq.symm.trans hnone
    | t2 x _ _ hreq =>
      refine ⟨fun hp => ?_, fun b hb => ?_⟩
      · obtain ⟨hrunning, -⟩ := hpoll hp
        exact ⟨hrunning, by simp, by simp⟩
      · obtain ⟨-, hnone⟩ := hboot b hb
        cases hreq.symm.trans hnone
    | t3 _ hphase | t5 _ hphase | t7 _ _ hphase | t8 hphase =>
      exact respond_hostAgrees ⟨hpoll, hboot⟩ (by simp [hphase]) rfl
    | t4 _ hphase | t6 _ _ hphase =>
      have hbusy : s.phase ≠ .idle := by simp [hphase]
      refine ⟨fun hp => ?_, fun b hb => ?_⟩
      · obtain ⟨hrunning, -, hop⟩ := hpoll hp
        exact ⟨hrunning, by simp, fun _ => hop hbusy⟩
      · obtain ⟨hidle, -⟩ := hboot b hb
        exact absurd hidle hbusy

/-- Settles O39. The parts of the invariant are kept each by itself; those of the record and of the order in every state. -/
theorem stepKeepsTheInvariant : Obligations.StepKeepsTheInvariant := by
  unfold Obligations.StepKeepsTheInvariant
  intro s t hinv hstep
  exact
    { widths := step_keeps_widthsAgree hinv.widths hstep
      live := step_keeps_live hinv.live hstep
      ports := step_keeps_portsAgree hinv.ports hstep
      recorded := stepKeepsTheRecordAlternating s t hinv.recorded hstep
      ordered := stepKeepsTheChannelOrder s t hinv.ordered hstep
      frames := step_keeps_framesLegal hinv.frames hstep
      host := step_keeps_hostAgrees hinv.host hstep }

/-- The reset state of every width of R7 meets the invariant. -/
theorem resetAt_inv {n : Nat} (hn : 3 ≤ n) : (State.resetAt n).Inv where
  widths := ⟨hn, by simp [State.resetAt], by simp [State.resetAt, HostAgent.reset], by simp [State.resetAt]⟩
  live := ⟨rfl, rfl, rfl, rfl, rfl, rfl⟩
  ports := by simp [State.PortsAgree, State.resetAt]
  recorded := rfl
  ordered := trivial
  frames := by simp [State.FramesLegal, State.resetAt]
  host := by simp [State.HostAgrees, State.resetAt, HostAgent.reset]

/-- Settles O3. -/
theorem resetMeetsTheInvariant : Obligations.ResetMeetsTheInvariant := by
  unfold Obligations.ResetMeetsTheInvariant
  exact ⟨resetAt_inv (by decide), fun _ => resetAt_inv⟩

/-! Progress -/

/-- In RUN a sound state has a current channel, in range or not. -/
theorem cur_ok_of_live {s : State} (hphase : s.phase = .run) (hlive : s.Live) : ∃ c, s.cur = .ok c := by
  rcases hop : s.op with - | - | - <;> simp only [State.Live, hphase, hop] at hlive
  · obtain ⟨hch, -⟩ := hlive
    obtain ⟨c, hc⟩ := Option.isSome_iff_exists.mp hch
    exact ⟨rangeCheck c, by simp [State.cur, hop, hc]⟩
  · obtain ⟨-, k, hk, -⟩ := hlive
    exact ⟨.legal k, by simp [State.cur, hop, hk]⟩

/-- The collection goes on where the Samples of the earlier channels stand in `acc`. -/
theorem collect_next_of_collected {k : Channel} (r : Frame) {s : State} (hcollected : Collected k s.acc) :
    ∃ t, collect k r s = .next t := by
  rcases Nat.lt_or_ge k.val 7 with h7 | h7
  · exact ⟨_, (collect_next_iff k r s _).mpr (.inl ⟨h7, rfl⟩)⟩
  · obtain rfl : k = 7 := by ext; change k.val = 7; omega
    have hcomplete : ¬ ∃ i : Channel, (s.acc.set 7 (some (dec r)))[i] = none := by
      rw [set_last_lacks_iff]
      rintro ⟨i, hi, hnone⟩
      have hsome := hcollected i
      rw [hnone, decide_eq_true (show i < 7 from hi)] at hsome
      cases hsome
    obtain ⟨v, hv⟩ := Option.ne_none_iff_exists'.mp (mt (readingSet?_eq_none_iff _).mp hcomplete)
    exact ⟨_, (collect_next_iff 7 r s _).mpr (.inr ⟨rfl, v, (readingSet?_eq_some_iff _ _).mp hv, rfl⟩)⟩

/-- In WAIT a sound state can take any answer: the elements it reads hold values. -/
theorem endTransfer_next_of_live {s : State} (a : XEnd) (hphase : s.phase = .wait) (hlive : s.Live) :
    ∃ t, endTransfer a s = .next t := by
  cases a with
  | fail => exact ⟨_, endTransfer_fail s⟩
  | ok r =>
    rcases hop : s.op with - | - | - <;> simp only [State.Live, hphase, hop] at hlive
    · exact ⟨_, (endTransfer_ok_next_iff r s _).mpr (.inl ⟨hop, rfl⟩)⟩
    · obtain ⟨-, k, hk, hcollected, -⟩ := hlive
      obtain ⟨t, ht⟩ := collect_next_of_collected r
        (s := { s.quiet with xend := none, history := .xend (.ok r) :: s.history }) hcollected
      exact ⟨t, (endTransfer_ok_next_iff r s t).mpr (.inr ⟨hop, k, hk, ht⟩)⟩

/-- A sound state has no stray answer. -/
theorem strayXend_of_portsAgree {s : State} (hports : s.PortsAgree) : s.strayXend = false := by
  obtain ⟨hxend, -, -⟩ := hports
  by_contra hstray
  obtain ⟨hphase, hsome⟩ := (strayXend_iff s).mp (by simpa using hstray)
  exact hphase (hxend hsome)

/-- What the block does with its ports in a sound state is a next state. -/
theorem act_next_of_inv {s : State} (hinv : s.Inv) : ∃ t, s.act = .next t := by
  obtain ⟨-, hreq, -, -⟩ := hinv.widths
  unfold State.act
  rcases hphase : s.phase with - | - | - <;> dsimp only
  case idle =>
    rcases hw : s.req with - | w <;> dsimp only
    · exact ⟨_, rfl⟩
    · split_ifs with hch hall
      · exact ⟨_, rfl⟩
      · exact ⟨_, rfl⟩
      · exact absurd (hreq w hw) hall
  case run =>
    obtain ⟨c, hc⟩ := cur_ok_of_live hphase hinv.live
    rw [hc]
    cases c <;> exact ⟨_, rfl⟩
  case wait =>
    rcases s.xend with - | a
    · exact ⟨_, rfl⟩
    · exact endTransfer_next_of_live a hphase hinv.live

/-- Settles O40. With `rst` asserted the contract leaves IDLE and RUN, where the reset answers; else the block acts on its
ports. -/
theorem soundStateSteps : Obligations.SoundStateSteps := by
  unfold Obligations.SoundStateSteps
  intro s hinv hcontract
  cases hrst : s.rst with
  | true => exact ⟨_, step_of_rst hrst (hcontract hrst)⟩
  | false =>
    rw [step_eq_act hrst (strayXend_of_portsAgree hinv.ports)]
    exact act_next_of_inv hinv

/-! The end of an operation -/

/-- The channels of the operation after the current one. -/
def State.channelsLeft (s : State) : Nat :=
  match s.op, s.k with
  | some .readAll, some k => 7 - k.val
  | _, _ => 0

/-- The steps that the operation can still take when the bus agent answers at its first turn: three for each channel. -/
def State.stepsLeft (s : State) : Nat :=
  3 * s.channelsLeft +
    match s.phase, s.xend with
    | .idle, _ => 0
    | .run, _ => 3
    | .wait, none => 2
    | .wait, some _ => 1

/-- An operation in progress in a sound state, with an answer to come for each transfer still without one. -/
structure State.Fed (s : State) : Prop where
  inv : s.Inv
  busy : s.phase ≠ .idle
  rst : s.rst = false
  answers : s.channelsLeft + (if s.xend = none then 1 else 0) ≤ s.answers.length

/-- The bus agent's turn brings the answer of the transfer in flight. -/
theorem busTurn_stepsLeft {s : State} (hphase : s.phase = .wait) (hxend : s.xend = none)
    (hanswers : s.channelsLeft + 1 ≤ s.answers.length) :
    (busTurn s).stepsLeft < s.stepsLeft ∧
      (busTurn s).channelsLeft + (if (busTurn s).xend = none then 1 else 0) ≤ (busTurn s).answers.length := by
  rcases hlist : s.answers with - | ⟨a, rest⟩
  · simp [hlist] at hanswers
  · have hleft : (busTurn s).channelsLeft = s.channelsLeft := by simp [State.channelsLeft]
    have hlen : s.channelsLeft ≤ rest.length := by simpa [hlist] using hanswers
    refine ⟨?_, ?_⟩
    · rw [State.stepsLeft, State.stepsLeft, hleft]
      simp [busTurn_answer s a rest hlist, hphase, hxend]
    · rw [hleft]
      simpa [busTurn_answer s a rest hlist] using hlen

/-- A row of R86 from a busy block delivers a response or leaves fewer steps, and uses no answer of the list. -/
theorem Transition.stepsLeft_lt {s t : State} (h : Transition s t) (hbusy : s.phase ≠ .idle) (hports : s.PortsAgree)
    (hanswers : s.channelsLeft + (if s.xend = none then 1 else 0) ≤ s.answers.length) :
    t.rsp ≠ none ∨
      (t.phase ≠ .idle ∧ t.rst = s.rst ∧ t.stepsLeft < s.stepsLeft ∧
        t.channelsLeft + (if t.xend = none then 1 else 0) ≤ t.answers.length) := by
  obtain ⟨hxend, -, -⟩ := hports
  cases h with
  | t1 _ _ hphase | t2 _ _ hphase => exact absurd hphase hbusy
  | t3 | t5 | t7 | t8 => exact .inl (by simp)
  | t4 c hphase =>
    have hnone : s.xend = none := by simpa [hphase] using hxend
    refine .inr ⟨by simp, rfl, ?_, hanswers⟩
    simp [State.stepsLeft, State.channelsLeft, hphase, hnone]
  | t6 r k hphase hsome hop hk h7 =>
    have hlen : 7 - k.val ≤ s.answers.length := by simpa [State.channelsLeft, hop, hk, hsome] using hanswers
    refine .inr ⟨by simp, rfl, ?_, ?_⟩
    · simp only [State.stepsLeft, State.channelsLeft, hop, hk, hphase, hsome, channel_succ_val h7]
      omega
    · simp only [State.channelsLeft, hop, channel_succ_val h7, if_true]
      omega

/-- A step of an operation that is fed delivers its response, or leaves it fed with fewer steps. -/
theorem State.Fed.step_next {s : State} (hfed : s.Fed) :
    ∃ t, step s = .next t ∧ ((t.phase = .idle ∧ t.rsp ≠ none) ∨ (t.Fed ∧ t.stepsLeft < s.stepsLeft)) := by
  obtain ⟨hinv, hbusy, hrst, hanswers⟩ := hfed
  obtain ⟨t, hstep⟩ := soundStateSteps s hinv fun h => by simp [hrst] at h
  have hinv' := stepKeepsTheInvariant s t hinv hstep
  refine ⟨t, hstep, ?_⟩
  cases stepCase_of_step hstep with
  | reset hrst' => simp [hrst] at hrst'
  | host _ hphase => exact absurd hphase hbusy
  | bus _ hphase hxend =>
    obtain ⟨hlt, hanswers'⟩ := busTurn_stepsLeft hphase hxend (by simpa [hxend] using hanswers)
    exact .inr ⟨⟨hinv', by simp [hphase], by simpa using hrst, hanswers'⟩, hlt⟩
  | row _ hrow =>
    rcases hrow.stepsLeft_lt hbusy hinv.ports hanswers with hrsp | ⟨hbusy', hrst', hlt, hanswers'⟩
    · obtain ⟨-, -, hrspIdle⟩ := hinv'.ports
      exact .inl ⟨hrspIdle hrsp, hrsp⟩
    · exact .inr ⟨⟨hinv', hbusy', hrst'.trans hrst, hanswers'⟩, hlt⟩

/-- A first step in front of a run. -/
theorem steps_succ_of_step {s t : State} (n : Nat) (hstep : step s = .next t) : steps (n + 1) s = steps n t := by
  simp [steps, hstep]

/-- An operation in progress has a step left. -/
theorem stepsLeft_pos {s : State} (hbusy : s.phase ≠ .idle) : 0 < s.stepsLeft := by
  unfold State.stepsLeft
  split
  · exact absurd ‹_› hbusy
  all_goals omega

/-- So an operation that is fed ends within the steps left to it. -/
theorem State.Fed.ends {m : Nat} {s : State} (hfed : s.Fed) (hm : s.stepsLeft ≤ m) :
    ∃ n t, n ≤ m ∧ steps n s = .next t ∧ t.phase = .idle ∧ t.rsp ≠ none := by
  induction m generalizing s with
  | zero => exact absurd (stepsLeft_pos hfed.busy) (not_lt.mpr hm)
  | succ m ih =>
    obtain ⟨t, hstep, ⟨hidle, hrsp⟩ | ⟨hfed', hlt⟩⟩ := hfed.step_next
    · exact ⟨1, t, by omega, steps_succ_of_step 0 hstep, hidle, hrsp⟩
    · obtain ⟨n, u, hn, hsteps, hidle, hrsp⟩ := ih hfed' (by omega)
      exact ⟨n + 1, u, by omega, (steps_succ_of_step n hstep).trans hsteps, hidle, hrsp⟩

theorem channelsLeft_le (s : State) : s.channelsLeft ≤ 7 := by
  unfold State.channelsLeft
  split
  · exact Nat.sub_le 7 _
  · exact Nat.zero_le 7

theorem stepsLeft_le (s : State) : s.stepsLeft ≤ 24 := by
  have hchannels := channelsLeft_le s
  unfold State.stepsLeft
  split <;> omega

/-- Settles O48. BUS_LIVE for eight transfers feeds every operation in progress, and none has more than 24 steps left. -/
theorem operationEndsUnderBusLive : Obligations.OperationEndsUnderBusLive := by
  unfold Obligations.OperationEndsUnderBusLive
  intro s hinv hbusy hrst hlive
  have hanswers : s.channelsLeft + (if s.xend = none then 1 else 0) ≤ s.answers.length := by
    have hchannels := channelsLeft_le s
    have height : 8 ≤ s.answers.length := hlive
    split <;> omega
  exact State.Fed.ends ⟨hinv, hbusy, hrst, hanswers⟩ (stepsLeft_le s)

end Sys2Proof.Machine
end

section
/-! PROOFS. Independence: what the step does not read. A view of the state that forgets something is respected by the step when each
operation of the block respects it. -/

namespace Sys2Proof.Machine

/-- The block as XEND Ok leaves it before it decodes: the answer taken and recorded, its bytes in `rx`. -/
def State.received (r : Frame) (s : State) : State :=
  { s.quiet with xend := none, history := .xend (.ok r) :: s.history, rx := some r }

/-- The end of two transfers with bytes looks alike where its parts do: the response of a READ_CH, the next channel, whether the
Reading Set is complete, and its response. -/
theorem viewNext_endTransfer_congr {α : Type} {F G : State → α} {q r : Frame} {u s : State} (hop : u.op = s.op)
    (hk : u.k = s.k)
    (hsample : F (respond (.sample (dec q)) (u.received q)) = G (respond (.sample (dec r)) (s.received r)))
    (hnext : ∀ k : Channel,
      F { u.received q with acc := u.acc.set k.val (some (dec q)), k := some (k + 1), phase := .run } =
        G { s.received r with acc := s.acc.set k.val (some (dec r)), k := some (k + 1), phase := .run })
    (hcomplete : ∀ k : Channel, (readingSet? (u.acc.set k.val (some (dec q)))).isSome =
      (readingSet? (s.acc.set k.val (some (dec r)))).isSome)
    (hreading : ∀ (k : Channel) (v w : Vector Sample 8), readingSet? (u.acc.set k.val (some (dec q))) = some v →
      readingSet? (s.acc.set k.val (some (dec r))) = some w →
      F (respond (.readingSet v) (u.received q)) = G (respond (.readingSet w) (s.received r))) :
    viewNext F (endTransfer (.ok q) u) = viewNext G (endTransfer (.ok r) s) := by
  simp only [endTransfer, hop, hk]
  rcases s.op with - | - | -
  · rfl
  · exact congrArg Host.Outcome.next hsample
  · rcases s.k with - | k
    · rfl
    · simp only [collect, State.quiet_acc]
      split
      · exact congrArg Host.Outcome.next (hnext k)
      · have hboth := hcomplete k
        rcases hv : readingSet? (u.acc.set k.val (some (dec q))) with - | v <;>
          rcases hw : readingSet? (s.acc.set k.val (some (dec r))) with - | w <;> rw [hv, hw] at hboth
        · rfl
        · cases hboth
        · cases hboth
        · exact congrArg Host.Outcome.next (hreading k v w hv hw)

/-- Where the two decode alike and hold the same Reading Set, any response and the next channel looking alike is enough. -/
theorem viewNext_endTransfer_of_same_acc {α : Type} {F G : State → α} {q r : Frame} {u s : State} (hop : u.op = s.op)
    (hk : u.k = s.k) (hacc : u.acc = s.acc) (hdec : dec q = dec r)
    (hrespond : ∀ p, F (respond p (u.received q)) = G (respond p (s.received r)))
    (hnext : ∀ k : Channel,
      F { u.received q with acc := s.acc.set k.val (some (dec r)), k := some (k + 1), phase := .run } =
        G { s.received r with acc := s.acc.set k.val (some (dec r)), k := some (k + 1), phase := .run }) :
    viewNext F (endTransfer (.ok q) u) = viewNext G (endTransfer (.ok r) s) := by
  refine viewNext_endTransfer_congr hop hk ?sample (fun k => ?next) (fun k => ?complete) (fun k v w hv hw => ?reading)
  case sample => rw [hdec]; exact hrespond _
  case next => rw [hacc, hdec]; exact hnext k
  case complete => rw [hacc, hdec]
  case reading =>
    rw [hacc, hdec] at hv
    cases hv.symm.trans hw
    exact hrespond _

/-- Settles O11. RSP_FRAME ends the transfer, and DEC is all that reads the bytes: without `rx` and the record the two look
alike. -/
theorem ignoredBitsHaveNoEffect : Obligations.IgnoredBitsHaveNoEffect := by
  unfold Obligations.IgnoredBitsHaveNoEffect
  intro a b s h1 h2
  simp only [exec, execRspFrame]
  split
  · exact viewNext_endTransfer_of_same_acc rfl rfl rfl (dec_eq_of_read_bits_eq h1 h2) (fun _ => rfl) (fun _ => rfl)
  · rfl

/-- A view of the state that the step respects: it keeps what the step asks first, and each operation of the block looks the same
through it whether or not it was looked through before. -/
structure StepView (F : State → State) : Prop where
  chW : ∀ s, (F s).chW = s.chW
  phase : ∀ s, (F s).phase = s.phase
  rst : ∀ s, (F s).rst = s.rst
  req : ∀ s, (F s).req = s.req
  cur : ∀ s, (F s).cur = s.cur
  xend : ∀ s, (F s).xend.isSome = s.xend.isSome
  reset : ∀ s, F (resetBlock (F s)) = F (resetBlock s)
  accept : ∀ s r, F (acceptRequest r (F s)) = F (acceptRequest r s)
  start : ∀ s f, F (startTransfer f (F s)) = F (startTransfer f s)
  invalid : ∀ s, F (respond .invalidChannel (F s)) = F (respond .invalidChannel s)
  host : ∀ s, F (hostTurn (F s)) = F (hostTurn s)
  bus : ∀ s, F (busTurn (F s)) = F (busTurn s)
  ended : ∀ s a b, s.xend = some a → (F s).xend = some b →
    viewNext F (endTransfer b (F s)) = viewNext F (endTransfer a s)

namespace StepView

variable {F : State → State} (hF : StepView F)
include hF

theorem strayXend (s : State) : (F s).strayXend = s.strayXend := by
  rw [State.strayXend, State.strayXend, hF.phase, hF.xend]

/-- What the block does with its ports looks the same. -/
theorem act (s : State) : viewNext F (F s).act = viewNext F s.act := by
  unfold State.act
  rw [hF.phase]
  rcases s.phase with - | - | - <;> dsimp only
  case idle =>
    rw [hF.req, hF.chW]
    rcases s.req with - | w <;> dsimp only
    · exact congrArg Host.Outcome.next (hF.host s)
    · split_ifs
      · exact congrArg Host.Outcome.next (hF.accept s _)
      · exact congrArg Host.Outcome.next (hF.accept s _)
      · rfl
  case run =>
    rw [hF.cur]
    rcases s.cur with f | (c | -)
    · rfl
    · exact congrArg Host.Outcome.next (hF.start s _)
    · exact congrArg Host.Outcome.next (hF.invalid s)
  case wait =>
    have hport := hF.xend s
    rcases ha : s.xend with - | a <;> rcases hb : (F s).xend with - | b <;> rw [ha, hb] at hport
    · exact congrArg Host.Outcome.next (hF.bus s)
    · cases hport
    · cases hport
    · exact hF.ended s a b ha hb

/-- So does the step. -/
theorem step_forget (s : State) : viewNext F (step (F s)) = viewNext F (step s) := by
  cases hrst : s.rst with
  | true =>
    have hrst' := (hF.rst s).trans hrst
    by_cases hphase : s.phase = .wait
    · rw [step_of_rst_busy hrst hphase, step_of_rst_busy hrst' ((hF.phase s).trans hphase)]
    · rw [step_of_rst hrst hphase, step_of_rst hrst' (by rwa [hF.phase])]
      exact congrArg Host.Outcome.next (hF.reset s)
  | false =>
    have hrst' := (hF.rst s).trans hrst
    cases hstray : s.strayXend with
    | true => rw [step_of_strayXend hrst hstray, step_of_strayXend hrst' ((hF.strayXend s).trans hstray)]
    | false =>
      rw [step_eq_act hrst hstray, step_eq_act hrst' ((hF.strayXend s).trans hstray)]
      exact hF.act s

/-- Two states that look alike step alike. -/
theorem step_congr {s u : State} (h : F s = F u) : viewNext F (step s) = viewNext F (step u) := by
  rw [← hF.step_forget s, h, hF.step_forget u]

end StepView

/-- The host's turns of two states with the same host ahead look alike where the host's three moves do. -/
theorem hostTurn_congr {F : State → State} {u s : State} (hmode : u.host.mode = s.host.mode)
    (hevents : u.host.events = s.host.events) (hquiet : F u.quiet = F s.quiet)
    (hboot : ∀ b, F { u.quiet with host := u.host.bootStep b } = F { s.quiet with host := s.host.bootStep b })
    (hevent : ∀ e es, F (hostEvent e es u.quiet) = F (hostEvent e es s.quiet)) : F (hostTurn u) = F (hostTurn s) := by
  simp only [hostTurn, State.quiet_host, hmode, hevents]
  rcases s.host.mode with b | - | x
  · exact hboot b
  · rcases s.host.events with - | ⟨e, es⟩
    · exact hquiet
    · exact hevent e es
  · exact hquiet

/-- Likewise the bus agent's turns. -/
theorem busTurn_congr {F : State → State} {u s : State} {f : XEnd → XEnd} (hanswers : u.answers = s.answers.map f)
    (hquiet : F u.quiet = F s.quiet)
    (hanswer : ∀ a rest, F { u.quiet with xend := some (f a), answers := rest.map f } =
      F { s.quiet with xend := some a, answers := rest }) : F (busTurn u) = F (busTurn s) := by
  rcases hlist : s.answers with - | ⟨a, rest⟩ <;> simp only [hlist, List.map_nil, List.map_cons] at hanswers
  · rw [busTurn_silent u hanswers, busTurn_silent s hlist, hquiet]
  · rw [busTurn_answer u _ _ hanswers, busTurn_answer s _ _ hlist, hanswer]

/-! The past -/

theorem forgetPast_respond (p : Response) (s : State) :
    (respond p s.forgetPast).forgetPast = (respond p s).forgetPast := by
  simp [State.forgetPast, respond, take_mode]

theorem forgetPast_bootStep (b : BootStep) (s : State) :
    State.forgetPast { s.forgetPast.quiet with host := s.forgetPast.host.bootStep b } =
      State.forgetPast { s.quiet with host := s.host.bootStep b } := by
  rcases hresults : s.host.bootResults with - | ⟨_ | _, rest⟩ <;>
    simp [State.forgetPast, State.quiet, HostAgent.bootStep, HostAgent.fatal, hresults]

theorem forgetPast_stepView : StepView State.forgetPast where
  chW _ := rfl
  phase _ := rfl
  rst _ := rfl
  req _ := rfl
  cur _ := rfl
  xend _ := rfl
  reset _ := rfl
  accept _ r := by cases r <;> rfl
  start _ _ := rfl
  invalid := forgetPast_respond .invalidChannel
  host s := hostTurn_congr rfl rfl rfl (fun b => forgetPast_bootStep b s) (fun e _ => by cases e <;> rfl)
  bus s := busTurn_congr (List.map_id _).symm rfl (fun _ _ => by rw [List.map_id]; rfl)
  ended s a b ha hb := by
    cases ha.symm.trans hb
    have hrespond : ∀ (p : Response) (u v : State), u.forgetPast = v.forgetPast →
        (respond p u).forgetPast = (respond p v).forgetPast := fun p u v h => by
      rw [← forgetPast_respond, h, forgetPast_respond]
    cases a with
    | fail => exact congrArg Host.Outcome.next (hrespond _ _ _ rfl)
    | ok r => exact viewNext_endTransfer_of_same_acc rfl rfl rfl rfl (fun p => hrespond p _ _ rfl) (fun _ => rfl)

/-- Settles O49. -/
theorem pastDoesNotMatter : Obligations.PastDoesNotMatter := by
  unfold Obligations.PastDoesNotMatter
  exact fun _ _ => forgetPast_stepView.step_congr

/-! The frames -/

theorem forgetFrames_stepView : StepView State.forgetFrames where
  chW _ := rfl
  phase _ := rfl
  rst _ := rfl
  req _ := rfl
  cur _ := rfl
  xend _ := rfl
  reset _ := rfl
  accept _ r := by cases r <;> rfl
  start _ _ := rfl
  invalid _ := rfl
  host s := hostTurn_congr rfl rfl rfl (fun _ => rfl) (fun e _ => by cases e <;> rfl)
  bus s := busTurn_congr (List.map_id _).symm rfl (fun _ _ => by rw [List.map_id]; rfl)
  ended s a b ha hb := by
    cases ha.symm.trans hb
    cases a with
    | fail => rfl
    | ok r => exact viewNext_endTransfer_of_same_acc rfl rfl rfl rfl (fun _ => rfl) (fun _ => rfl)

/-- Settles O51. -/
theorem framesAreDeadAfterTheirTransfer : Obligations.FramesAreDeadAfterTheirTransfer := by
  unfold Obligations.FramesAreDeadAfterTheirTransfer
  exact fun _ _ _ => forgetFrames_stepView.step_congr rfl

/-! The bytes -/

@[simp] theorem XEnd.forgetBytes_idem (a : XEnd) : a.forgetBytes.forgetBytes = a.forgetBytes := by
  cases a <;> rfl

@[simp] theorem Response.forgetBytes_idem (p : Response) : p.forgetBytes.forgetBytes = p.forgetBytes := by
  cases p <;> rfl

/-- Bytes already forgotten leave nothing more to forget. -/
@[simp] theorem State.forgetBytes_idem (s : State) : s.forgetBytes.forgetBytes = s.forgetBytes := by
  simp [State.forgetBytes, Function.comp_def]

@[simp] theorem Response.isError_forgetBytes (p : Response) : p.forgetBytes.isError = p.isError := by
  cases p <;> rfl

/-- Two responses of one kind, from states that differ in bytes only, look alike without bytes. -/
theorem forgetBytes_respond {p q : Response} {u s : State} (hpq : p.forgetBytes = q.forgetBytes)
    (hus : u.forgetBytes = s.forgetBytes) : (respond p u).forgetBytes = (respond q s).forgetBytes := by
  have hkind : ∀ (p : Response) (s : State), (respond p.forgetBytes s).forgetBytes = (respond p s).forgetBytes := fun p s => by
    simp [State.forgetBytes, take_mode]
  have hstate : ∀ (p : Response) (s : State), (respond p s.forgetBytes).forgetBytes = (respond p s).forgetBytes := fun p s => by
    simp [State.forgetBytes, Function.comp_def, take_mode]
  rw [← hkind p, ← hstate, hpq, hus, hstate, hkind]

/-- A Reading Set is complete or not by which entries hold a Sample. -/
theorem readingSet?_isSome_congr {acc bcc : Vector (Option Sample) 8}
    (h : ∀ i : Channel, acc[i] = none ↔ bcc[i] = none) : (readingSet? acc).isSome = (readingSet? bcc).isSome := by
  rw [Bool.eq_iff_iff, Option.isSome_iff_ne_none, Option.isSome_iff_ne_none, not_iff_not, readingSet?_eq_none_iff,
    readingSet?_eq_none_iff]
  exact exists_congr h

theorem forgetBytes_bootStep (b : BootStep) (s : State) :
    State.forgetBytes { s.forgetBytes.quiet with host := s.forgetBytes.host.bootStep b } =
      State.forgetBytes { s.quiet with host := s.host.bootStep b } := by
  rcases hresults : s.host.bootResults with - | ⟨_ | _, rest⟩ <;>
    simp [State.forgetBytes, State.quiet, HostAgent.bootStep, HostAgent.fatal, hresults, Function.comp_def]

theorem forgetBytes_stepView : StepView State.forgetBytes where
  chW _ := rfl
  phase _ := rfl
  rst _ := rfl
  req _ := rfl
  cur _ := rfl
  xend _ := by simp [State.forgetBytes]
  reset _ := by simp [State.forgetBytes, resetBlock, Function.comp_def]
  accept _ r := by cases r <;> simp [State.forgetBytes, acceptRequest, Function.comp_def]
  start _ _ := by simp [State.forgetBytes, startTransfer, Function.comp_def]
  invalid s := forgetBytes_respond rfl s.forgetBytes_idem
  host s := hostTurn_congr rfl rfl (by simp [State.forgetBytes, State.quiet, Function.comp_def])
    (fun b => forgetBytes_bootStep b s)
    (fun e _ => by cases e <;> simp [State.forgetBytes, State.quiet, hostEvent, Function.comp_def])
  bus s := busTurn_congr (f := XEnd.forgetBytes) rfl (by simp [State.forgetBytes, State.quiet, Function.comp_def])
    (fun a rest => by simp [State.forgetBytes, State.quiet, Function.comp_def])
  ended s a b ha hb := by
    obtain rfl : a.forgetBytes = b := by simpa [State.forgetBytes, ha] using hb
    cases a with
    | fail =>
      exact congrArg Host.Outcome.next (forgetBytes_respond rfl (by simp [State.forgetBytes, State.quiet, Function.comp_def]))
    | ok r =>
      have hreceived : (s.forgetBytes.received { b0 := 0, b1 := 0, b2 := 0 }).forgetBytes = (s.received r).forgetBytes := by
        simp [State.forgetBytes, State.received, State.quiet, Function.comp_def]
      refine viewNext_endTransfer_congr rfl rfl (forgetBytes_respond rfl hreceived) (fun k => ?next)
        (fun k => readingSet?_isSome_congr fun i => ?complete) (fun k v w _ _ => forgetBytes_respond rfl hreceived)
      case next =>
        simp [State.forgetBytes, State.received, State.quiet, Function.comp_def]
      case complete =>
        rcases eq_or_ne k.val i.val with heq | hne
        · simp [heq]
        · simp [State.forgetBytes, Vector.getElem_set_ne, hne]

/-- Settles O50. -/
theorem bytesNeverInfluenceControl : Obligations.BytesNeverInfluenceControl := by
  unfold Obligations.BytesNeverInfluenceControl
  exact fun _ _ => forgetBytes_stepView.step_congr

end Sys2Proof.Machine
end

section
/-! PROOFS. The agents around the block: what waits, what the host does in its boot and in its loop, and what it leaves to the
response (60_exceptions.md section 4, 70_reset_and_hazards.md sections 2 and 3). -/

namespace Sys2Proof.Machine

/-! Waiting -/

/-- A state that steps to itself stays. -/
theorem steps_of_step_self {s : State} (hstep : step s = .next s) (n : Nat) : steps n s = .next s := by
  induction n with
  | zero => rfl
  | succ n ih => rw [steps_succ_of_step n hstep, ih]

/-- Where a step only withdraws the outputs, and does so again, any number of steps does no more. -/
theorem steps_of_step_quiet {s : State} (hstep : step s = .next s.quiet) (hagain : step s.quiet = .next s.quiet) (n : Nat) :
    steps n s = .next (if n = 0 then s else s.quiet) := by
  cases n with
  | zero => rfl
  | succ n => rw [steps_succ_of_step n hstep, steps_of_step_self hagain, if_neg (Nat.succ_ne_zero n)]

/-- Without an answer to come the bus agent's turn changes nothing (R35). -/
theorem step_wait_silent {s : State} (hphase : s.phase = .wait) (hrst : s.rst = false) (hxend : s.xend = none)
    (hanswers : s.answers = []) : step s = .next s.quiet := by
  rw [step_wait_none hphase hrst hxend, busTurn_silent s hanswers]

/-- Settles O37. -/
theorem waitsWithoutLimit : Obligations.WaitsWithoutLimit := by
  unfold Obligations.WaitsWithoutLimit
  intro n s hphase hrst hxend hanswers
  have hsteps := steps_of_step_quiet (step_wait_silent hphase hrst hxend hanswers)
    (step_wait_silent (s := s.quiet) hphase hrst hxend hanswers) n
  refine ⟨_, hsteps, ?_⟩
  split <;> exact ⟨hphase, rfl, rfl, rfl, rfl, rfl, rfl, rfl⟩

/-- A running host with no event leaves an idle block alone. -/
theorem step_idle_running_silent {s : State} (hphase : s.phase = .idle) (hrst : s.rst = false) (hxend : s.xend = none)
    (hreq : s.req = none) (hmode : s.host.mode = .running) (hevents : s.host.events = []) : step s = .next s.quiet := by
  rw [step_idle_none hphase hrst hxend hreq]
  simp [hostTurn, hmode, hevents]

/-- Settles O38. -/
theorem idleBlockDoesNothing : Obligations.IdleBlockDoesNothing := by
  unfold Obligations.IdleBlockDoesNothing
  intro n s hphase hrst hxend hreq hmode hevents
  exact ⟨_, steps_of_step_quiet (step_idle_running_silent hphase hrst hxend hreq hmode hevents)
    (step_idle_running_silent (s := s.quiet) hphase hrst hxend hreq hmode hevents) n, rfl⟩

/-! The loop -/

/-- Settles O52. In IDLE with no request the step is the host's turn, which takes the event at the head of its list. -/
theorem runningHostTakesOneEvent : Obligations.RunningHostTakesOneEvent := by
  unfold Obligations.RunningHostTakesOneEvent
  intro s es hphase hrst hxend hreq hmode
  have hstep : ∀ e, s.host.events = e :: es → step s = .next (hostEvent e es s.quiet) := fun e hevents => by
    rw [step_idle_none hphase hrst hxend hreq, hostTurn_event s e es hmode hevents]
  exact ⟨hstep .tick, hstep .interrupt, fun w => hstep (.request w), hstep .rst⟩

/-- The errors are the responses whose status is not OK (R89). -/
theorem Response.isError_iff (r : Response) : r.isError = true ↔ r.status ≠ .ok := by
  cases r <;> simp [Response.isError, Response.status]

/-- After the header the lines of a tick are the channels in order (R108). -/
theorem printReadingSet_getElem? (v : Vector Sample 8) :
    ∀ c : Channel, (printReadingSet v)[c.val + 1]? = some (.channel c v[c])
  | 0 | 1 | 2 | 3 | 4 | 5 | 6 | 7 => rfl

/-- Settles O53. -/
theorem tickPrintsOrTerminates : Obligations.TickPrintsOrTerminates := by
  unfold Obligations.TickPrintsOrTerminates
  refine fun h hpoll => ⟨fun v => ⟨printReadingSet v, rfl, rfl, printReadingSet_getElem? v, ?set⟩, fun r hr => ?error⟩
  case set => exact take_polling_readingSet v h hpoll
  case error => exact take_polling_error r h hpoll ((Response.isError_iff r).mpr hr)

/-- A row of R86 leaves the host alone, or delivers a response that the host takes. -/
theorem Transition.host_cases {s t : State} (h : Transition s t) :
    (t.rsp = none ∧ t.host = s.host) ∨ ∃ r, t.rsp = some r ∧ t.host = s.host.take r := by
  cases h with
  | t1 | t2 | t4 | t6 => exact .inl ⟨rfl, rfl⟩
  | t3 | t5 | t7 | t8 => exact .inr ⟨_, rfl, rfl⟩

/-- Settles O54. A terminated host is in no tick, so a response changes neither its mode nor its events; its own turn and the
reset change neither. -/
theorem terminatedHostIssuesNothing : Obligations.TerminatedHostIssuesNothing := by
  unfold Obligations.TerminatedHostIssuesNothing
  intro s t x hhost hmode hstep
  have hnot : s.host.polling = false := by
    obtain ⟨hpoll, -⟩ := hhost
    by_contra hp
    obtain ⟨hrunning, -⟩ := hpoll (by simpa using hp)
    cases hmode.symm.trans hrunning
  cases stepCase_of_step hstep with
  | reset hrst => exact ⟨hmode, rfl, fun _ hrst' => by simp [hrst] at hrst'⟩
  | host =>
    rw [hostTurn_terminated s x hmode]
    exact ⟨hmode, rfl, fun _ _ _ => rfl⟩
  | bus _ hphase => exact ⟨by simpa using hmode, by simp, fun hidle => by cases hidle.symm.trans hphase⟩
  | row _ hrow =>
    have hbusy : ¬ (s.phase = .idle ∧ s.req = none) := by
      rintro ⟨hphase, hreq⟩
      cases hrow with
      | t1 _ _ _ hsome | t2 _ _ _ hsome => cases hreq.symm.trans hsome
      | t3 _ hp | t4 _ hp | t5 _ hp | t6 _ _ hp | t7 _ _ hp | t8 hp => cases hphase.symm.trans hp
    refine ⟨?_, ?_, fun hphase _ hreq => absurd ⟨hphase, hreq⟩ hbusy⟩ <;>
      rcases hrow.host_cases with ⟨-, heq⟩ | ⟨r, -, heq⟩ <;> rw [heq]
    · exact hmode
    · rw [take_mode, hnot]
      exact hmode
    · exact take_events r s.host

/-! What is pending -/

/-- The state with other events of the host to come. -/
def State.withEvents (es : List HostEvent) (s : State) : State := { s with host := { s.host with events := es } }

@[simp] theorem State.withEvents_phase (es : List HostEvent) (s : State) : (s.withEvents es).phase = s.phase := rfl
@[simp] theorem State.withEvents_cur (es : List HostEvent) (s : State) : (s.withEvents es).cur = s.cur := rfl
@[simp] theorem State.withEvents_xend (es : List HostEvent) (s : State) : (s.withEvents es).xend = s.xend := rfl

theorem take_withEvents (r : Response) (h : HostAgent) (es : List HostEvent) :
    ({ h with events := es } : HostAgent).take r = { h.take r with events := es } := by
  cases hp : h.polling with
  | false => simp [take_not_polling, hp]
  | true => cases r <;> simp [HostAgent.take, hp]

theorem respond_withEvents (r : Response) (s : State) (es : List HostEvent) :
    respond r (s.withEvents es) = (respond r s).withEvents es := by
  simp [respond, State.withEvents, take_withEvents]

theorem viewNext_id (o : Host.Outcome State Fault Refusal) : viewNext id o = o := by
  cases o <;> rfl

/-- The end of a transfer does not read the events to come. -/
theorem endTransfer_withEvents (a : XEnd) (s : State) (es : List HostEvent) :
    endTransfer a (s.withEvents es) = viewNext (State.withEvents es) (endTransfer a s) := by
  cases a with
  | fail =>
    exact congrArg Host.Outcome.next
      (respond_withEvents .transferFailed { s.quiet with xend := none, history := .xend .fail :: s.history } es)
  | ok r =>
    rw [← viewNext_id (endTransfer (.ok r) (s.withEvents es))]
    exact viewNext_endTransfer_of_same_acc rfl rfl rfl rfl (fun p => respond_withEvents p (s.received r) es) (fun _ => rfl)

theorem busTurn_withEvents (s : State) (es : List HostEvent) : busTurn (s.withEvents es) = (busTurn s).withEvents es := by
  rcases hanswers : s.answers with - | ⟨a, rest⟩
  · rw [busTurn_silent s hanswers, busTurn_silent (s.withEvents es) hanswers]
    rfl
  · rw [busTurn_answer s a rest hanswers, busTurn_answer (s.withEvents es) a rest hanswers]
    rfl

/-- In RUN and WAIT neither does what the block does with its ports. -/
theorem act_withEvents {s : State} (es : List HostEvent) (hbusy : s.phase ≠ .idle) :
    (s.withEvents es).act = viewNext (State.withEvents es) s.act := by
  unfold State.act
  rw [State.withEvents_phase, State.withEvents_cur, State.withEvents_xend]
  rcases hphase : s.phase with - | - | -
  case idle => exact absurd hphase hbusy
  case run =>
    rcases s.cur with f | (c | -)
    · rfl
    · rfl
    · exact congrArg Host.Outcome.next (respond_withEvents _ s es)
  case wait =>
    rcases s.xend with - | a
    · exact congrArg Host.Outcome.next (busTurn_withEvents s es)
    · exact endTransfer_withEvents a s es

/-- So neither does the step. -/
theorem step_withEvents {s : State} (es : List HostEvent) (hbusy : s.phase ≠ .idle) :
    step (s.withEvents es) = viewNext (State.withEvents es) (step s) := by
  cases hrst : s.rst with
  | true =>
    by_cases hphase : s.phase = .wait
    · rw [step_of_rst_busy hrst hphase, step_of_rst_busy (s := s.withEvents es) hrst hphase]
      rfl
    · rw [step_of_rst hrst hphase, step_of_rst (s := s.withEvents es) hrst hphase]
      rfl
  | false =>
    cases hstray : s.strayXend with
    | true =>
      rw [step_of_strayXend hrst hstray, step_of_strayXend (s := s.withEvents es) hrst hstray]
      rfl
    | false => rw [step_eq_act hrst hstray, step_eq_act (s := s.withEvents es) hrst hstray, act_withEvents es hbusy]

/-- Settles O55. A busy block's step reads no event to come, and takes none: it is a reset, a row of R86 or the bus agent's
turn. -/
theorem hostEventsWaitForTheResponse : Obligations.HostEventsWaitForTheResponse := by
  unfold Obligations.HostEventsWaitForTheResponse
  refine fun s es hbusy => ⟨step_withEvents es hbusy, fun t hstep => ?_⟩
  cases stepCase_of_step hstep with
  | reset => rfl
  | host _ hphase => exact absurd hphase hbusy
  | bus => rw [busTurn_host]
  | row _ hrow =>
    rcases hrow.host_cases with ⟨-, heq⟩ | ⟨r, -, heq⟩ <;> rw [heq]
    exact take_events r s.host

/-- Settles O56. A response sets the mark by its status and keeps it; nothing else touches the mark. -/
theorem errorMarkIsSticky : Obligations.ErrorMarkIsSticky := by
  unfold Obligations.ErrorMarkIsSticky
  intro s t hstep
  have hsame : t.rsp = none → t.host.goneWrong = s.host.goneWrong →
      (s.host.goneWrong = true → t.host.goneWrong = true) ∧
      (∀ r, t.rsp = some r → r.status ≠ .ok → t.host.goneWrong = true) ∧
      (t.host.goneWrong = true → s.host.goneWrong = true ∨ ∃ r, t.rsp = some r ∧ r.status ≠ .ok) := by
    intro hrsp hmark
    simp [hrsp, hmark]
  cases stepCase_of_step hstep with
  | reset => exact hsame rfl rfl
  | host => exact hsame (hostTurn_rsp s) (hostTurn_goneWrong s)
  | bus => exact hsame (busTurn_rsp s) (by rw [busTurn_host])
  | row _ hrow =>
    rcases hrow.host_cases with ⟨hrsp, hhost⟩ | ⟨r, hrsp, hhost⟩
    · exact hsame hrsp (by rw [hhost])
    · rw [hhost, take_goneWrong, Bool.or_eq_true, Response.isError_iff]
      exact ⟨.inl, fun q hq hne => .inr (Option.some.inj (hrsp.symm.trans hq) ▸ hne),
        Or.imp_right fun hne => ⟨r, hrsp, hne⟩⟩

/-- A step leaves the host's mode, ends its process, or takes its boot one step on. -/
theorem mode_of_step {s t : State} (hstep : step s = .next t) :
    t.host.mode = s.host.mode ∨ (∃ x, t.host.mode = .terminated x) ∨
      ∃ b, s.host.mode = .booting b ∧ t.host.mode = b.after := by
  cases stepCase_of_step hstep with
  | reset => exact .inl rfl
  | bus => exact .inl (by rw [busTurn_host])
  | row _ hrow =>
    rcases hrow.host_cases with ⟨-, heq⟩ | ⟨r, -, heq⟩ <;> rw [heq]
    · exact .inl rfl
    · rw [take_mode]
      split
      · exact .inr (.inl ⟨_, rfl⟩)
      · exact .inl rfl
  | host =>
    rcases hostTurn_cases s with heq | ⟨b, hmode, heq⟩ | ⟨hmode, e, es, -, heq⟩ <;> rw [heq]
    · exact .inl rfl
    · rcases bootStep_cases b s.host with ⟨-, heq⟩ | ⟨rest, -, heq⟩ | ⟨rest, -, heq⟩ <;> rw [heq]
      · exact .inl rfl
      · exact .inr (.inr ⟨b, hmode, rfl⟩)
      · exact .inr (.inl ⟨_, rfl⟩)
    · cases e with
      | interrupt => exact .inr (.inl ⟨_, rfl⟩)
      | request | tick | rst => exact .inl rfl

/-- Settles O57. Only a booting host's mode changes to anything but the end of the process. -/
theorem connectionIsNeverReopened : Obligations.ConnectionIsNeverReopened := by
  unfold Obligations.ConnectionIsNeverReopened
  intro s t hstep
  rcases mode_of_step hstep with hmode | ⟨x, hmode⟩ | ⟨b, hboot, -⟩
  · rw [hmode]
    exact ⟨id, fun h => by simp [h]⟩
  · simp [hmode, HostMode.session]
  · simp [hboot, HostMode.session]

/-! The boot -/

/-- An idle block to which nothing is offered: the host has the turn. -/
structure State.Unasked (s : State) : Prop where
  phase : s.phase = .idle
  rst : s.rst = false
  xend : s.xend = none
  req : s.req = none

/-- The state with the outputs withdrawn and another host. -/
def State.quietWith (h : HostAgent) (s : State) : State := { s.quiet with host := h }

theorem State.Unasked.quietWith {s : State} (hs : s.Unasked) (h : HostAgent) : (s.quietWith h).Unasked :=
  ⟨hs.phase, hs.rst, hs.xend, hs.req⟩

/-- The boot step is the booting host's turn. -/
theorem step_boot {s : State} {b : BootStep} (hs : s.Unasked) (hmode : s.host.mode = .booting b) :
    step s = .next (s.quietWith (s.host.bootStep b)) := by
  rw [step_idle_none hs.phase hs.rst hs.xend hs.req]
  simp [hostTurn, hmode, State.quietWith]

/-- One that succeeds takes the host to the next (R121). -/
theorem step_boot_success {s : State} {b : BootStep} {rest : List Bool} (hs : s.Unasked)
    (hmode : s.host.mode = .booting b) (hresults : s.host.bootResults = true :: rest) :
    step s = .next (s.quietWith { s.host with mode := b.after, bootResults := rest }) := by
  rw [step_boot hs hmode, HostAgent.bootStep, hresults]

/-- One that fails ends the host's process with fatal status (R122). -/
theorem step_boot_failure {s : State} {b : BootStep} {rest : List Bool} (hs : s.Unasked)
    (hmode : s.host.mode = .booting b) (hresults : s.host.bootResults = false :: rest) :
    step s = .next (s.quietWith { s.host with bootResults := rest }.fatal) := by
  rw [step_boot hs hmode, HostAgent.bootStep, hresults]

/-- Settles O58. Each of the four results takes the host one boot step on. -/
theorem bootReachesTheLoop : Obligations.BootReachesTheLoop := by
  unfold Obligations.BootReachesTheLoop
  intro s rest hphase hrst hxend hreq hmode hresults
  have hs : s.Unasked := ⟨hphase, hrst, hxend, hreq⟩
  calc steps 4 s
      = steps 3 (s.quietWith { s.host with mode := .booting .portOpen, bootResults := [true, true, true] ++ rest }) :=
        steps_succ_of_step 3 (step_boot_success hs hmode hresults)
    _ = steps 2 (s.quietWith { s.host with mode := .booting .speedLimit, bootResults := [true, true] ++ rest }) :=
        steps_succ_of_step 2 (step_boot_success (b := .portOpen) (hs.quietWith _) rfl rfl)
    _ = steps 1 (s.quietWith { s.host with mode := .booting .connect, bootResults := [true] ++ rest }) :=
        steps_succ_of_step 1 (step_boot_success (b := .speedLimit) (hs.quietWith _) rfl rfl)
    _ = steps 0 (s.quietWith { s.host with mode := .running, bootResults := rest }) :=
        steps_succ_of_step 0 (step_boot_success (b := .connect) (hs.quietWith _) rfl rfl)

/-- A terminated host leaves an idle block alone. -/
theorem step_terminated {s : State} {x : ExitStatus} (hs : s.Unasked) (hmode : s.host.mode = .terminated x) :
    step s = .next s.quiet := by
  rw [step_idle_none hs.phase hs.rst hs.xend hs.req, hostTurn_terminated s x hmode]

/-- Before the last boot step a success leads to another boot step. -/
theorem BootStep.after_of_lt_left {b : BootStep} {j : Nat} (h : j + 1 < b.left) :
    ∃ c, b.after = .booting c ∧ j < c.left := by
  cases b with
  | busLibraryInit => exact ⟨.portOpen, rfl, Nat.lt_of_succ_lt_succ h⟩
  | portOpen => exact ⟨.speedLimit, rfl, Nat.lt_of_succ_lt_succ h⟩
  | speedLimit => exact ⟨.connect, rfl, Nat.lt_of_succ_lt_succ h⟩
  | connect => exact absurd (Nat.lt_of_succ_lt_succ h) (Nat.not_lt_zero j)

/-- A boot that fails leaves the block unasked, by induction on the successes before the failure: each takes the host one boot
step on, and after the failure the terminated host leaves the block as it is. -/
theorem steps_failed_boot {s t : State} {b : BootStep} {j n : Nat} {rest : List Bool} (hs : s.Unasked)
    (hmode : s.host.mode = .booting b) (hj : j < b.left)
    (hresults : s.host.bootResults = List.replicate j true ++ false :: rest) (hsteps : steps n s = .next t) :
    t.Unasked ∧ t.history = s.history ∧ (j < n → t.host.mode = .terminated .fatal) := by
  induction j generalizing s b n with
  | zero =>
    cases n with
    | zero =>
      cases hsteps
      exact ⟨hs, rfl, fun h => absurd h (Nat.lt_irrefl 0)⟩
    | succ n =>
      have hquiet := step_terminated (hs.quietWith { s.host with bootResults := rest }.fatal) rfl
      rw [steps_succ_of_step n (step_boot_failure hs hmode hresults), steps_of_step_self hquiet] at hsteps
      cases hsteps
      exact ⟨hs.quietWith _, rfl, fun _ => rfl⟩
  | succ j ih =>
    cases n with
    | zero =>
      cases hsteps
      exact ⟨hs, rfl, fun h => absurd h (Nat.not_lt_zero _)⟩
    | succ n =>
      obtain ⟨c, hc, hjc⟩ := BootStep.after_of_lt_left hj
      rw [steps_succ_of_step n (step_boot_success hs hmode hresults)] at hsteps
      obtain ⟨ht, hhistory, hfatal⟩ := ih (hs.quietWith { s.host with
        mode := b.after, bootResults := List.replicate j true ++ false :: rest }) hc hjc rfl hsteps
      exact ⟨ht, hhistory, fun h => hfatal (Nat.lt_of_succ_lt_succ h)⟩

/-- Settles O59. -/
theorem failedBootMakesNoRequest : Obligations.FailedBootMakesNoRequest := by
  unfold Obligations.FailedBootMakesNoRequest
  intro s t b j n rest hphase hrst hxend hreq hmode hj hresults hsteps
  obtain ⟨ht, hhistory, hfatal⟩ := steps_failed_boot ⟨hphase, hrst, hxend, hreq⟩ hmode hj hresults hsteps
  exact ⟨ht.phase, ht.req, hhistory, hfatal⟩

end Sys2Proof.Machine
end

section
/-! PROOFS. Whole operations (41_read_ops.md sections 2 and 3): from the request at the port of a ready block to the response. -/

namespace Sys2Proof.Machine

/-! Runs -/

/-- A run in front of a run. -/
theorem steps_add {m : Nat} {s t : State} (n : Nat) (h : steps m s = .next t) : steps (m + n) s = steps n t := by
  induction m generalizing s with
  | zero =>
    cases h
    rw [Nat.zero_add]
  | succ m ih =>
    rw [Nat.succ_add]
    rcases hstep : step s with u | f | f
    · rw [steps_succ_of_step _ hstep] at h ⊢
      exact ih h
    · simp [steps, hstep] at h
    · simp [steps, hstep] at h

/-! One transfer -/

/-- An operation that is about to start the transfer of channel `c`. -/
structure State.Starting (c : Channel) (s : State) : Prop where
  phase : s.phase = .run
  rst : s.rst = false
  xend : s.xend = none
  cur : s.cur = .ok (.legal c)

/-- The transfer of channel `c` in flight, its answer at the bus port. -/
def State.answered (c : Channel) (a : XEnd) (rest : List XEnd) (s : State) : State :=
  { s with
    tx := some (enc c), phase := .wait, xend := some a, answers := rest, xstart := none, rsp := none,
    history := .xstart (enc c) :: s.history }

/-- A transfer takes three steps: its start, its answer at the port, its end. -/
theorem steps_transfer {c : Channel} {a : XEnd} {rest : List XEnd} {s t : State} (hs : s.Starting c)
    (hanswers : s.answers = a :: rest) (hend : endTransfer a (s.answered c a rest) = .next t) : steps 3 s = .next t := by
  have hstart : step s = .next (startTransfer (enc c) s) :=
    (step_run_legal hs.phase hs.rst hs.xend hs.cur).trans (exec_cmdOf_legal hs.phase hs.rst hs.cur)
  have hanswer : step (startTransfer (enc c) s) = .next (s.answered c a rest) := by
    rw [step_wait_none (s := startTransfer (enc c) s) rfl hs.rst hs.xend, busTurn_answer (startTransfer (enc c) s) a rest hanswers]
    rfl
  have hlast : step (s.answered c a rest) = .next t := by
    rw [step_eq_act (s := s.answered c a rest) hs.rst (strayXend_false_of_wait _ rfl)]
    exact hend
  rw [steps_succ_of_step 2 hstart, steps_succ_of_step 1 hanswer, steps_succ_of_step 0 hlast]
  rfl

/-- A failed transfer of either operation ends it (R83, R90). -/
theorem steps_transfer_fail {c : Channel} {rest : List XEnd} {s : State} (hs : s.Starting c)
    (hanswers : s.answers = .fail :: rest) :
    ∃ t, steps 3 s = .next t ∧ t.phase = .idle ∧ t.Empty ∧ t.answers = rest ∧ t.rsp = some .transferFailed ∧
      t.history = .rsp .transferFailed :: .xend .fail :: .xstart (enc c) :: s.history :=
  ⟨_, steps_transfer hs hanswers (endTransfer_fail _), rfl, respond_empty _ _, rfl, rfl, rfl⟩

/-! READ_CH -/

/-- READ_CH of a legal channel is about to start its one transfer. -/
theorem starting_of_readCh {k : Channel} {s : State} (hready : s.Ready) :
    (acceptRequest (.readCh k.val) s).Starting k where
  phase := rfl
  rst := hready.rst
  xend := hready.xend
  cur := (cur_legal_iff _ k).mpr (.inl ⟨rfl, rfl⟩)

/-- Settles O44. The request is accepted; then the transfer ends with bytes or a failure, or the range check ends the operation
before it. -/
theorem readChFromRequestToResponse : Obligations.ReadChFromRequestToResponse := by
  unfold Obligations.ReadChFromRequestToResponse
  intro c s hready hc hreq
  have haccept : ∀ n, steps (n + 1) s = steps n (acceptRequest (.readCh c) s) := fun n =>
    steps_succ_of_step n (step_idle_readCh hready.phase hready.rst hready.xend hc hreq)
  refine ⟨fun k r rest hk hanswers => ?bytes, fun k rest hk hanswers => ?failure, fun h7 => ?outOfRange⟩
  case bytes =>
    subst hk
    have hsteps := steps_transfer (starting_of_readCh (k := k) hready) hanswers
      ((endTransfer_ok_next_iff r _ _).mpr (.inl ⟨rfl, rfl⟩))
    exact ⟨_, (haccept 3).trans hsteps, rfl, respond_empty _ _, rfl, rfl, rfl⟩
  case failure =>
    subst hk
    obtain ⟨t, hsteps, hidle, hempty, hrest, hrsp, hhistory⟩ := steps_transfer_fail (starting_of_readCh hready) hanswers
    exact ⟨t, (haccept 3).trans hsteps, hidle, hempty, hrest, hrsp, hhistory⟩
  case outOfRange =>
    have hcur : (acceptRequest (.readCh c) s).cur = .ok .outOfRange := (cur_outOfRange_iff _).mpr ⟨rfl, c, rfl, h7⟩
    have hstep : step (acceptRequest (.readCh c) s) = .next (respond .invalidChannel (acceptRequest (.readCh c) s)) :=
      (step_run_outOfRange (acceptRequest_readCh_phase c s) hready.rst hready.xend hcur).trans
        (exec_invalidChannel_outOfRange (acceptRequest_readCh_phase c s) hready.rst hcur)
    exact ⟨_, (haccept 1).trans (steps_succ_of_step 0 hstep), rfl, respond_empty _ _, rfl, rfl, rfl⟩

/-! READ_ALL -/

/-- A READ_ALL at channel `k` that has collected the frames `rs` of the channels below it, with the record `past` up to its
request. -/
structure State.Collecting (k : Channel) (rs : List Frame) (past : List Event) (s : State) : Prop where
  phase : s.phase = .run
  rst : s.rst = false
  xend : s.xend = none
  op : s.op = some .readAll
  current : s.k = some k
  length : k.val = rs.length
  acc : ∀ (i : Channel) (hi : i.val < rs.length), s.acc[i] = some (dec rs[i.val])
  history : s.history = (transferEvents 0 rs).reverse ++ past

theorem State.Collecting.starting {k : Channel} {rs : List Frame} {past : List Event} {s : State}
    (hs : s.Collecting k rs past) : s.Starting k where
  phase := hs.phase
  rst := hs.rst
  xend := hs.xend
  cur := (cur_legal_iff s _).mpr (.inr ⟨hs.op, hs.current⟩)

/-- The last transfer stands at the end of the events. -/
theorem transferEvents_concat {k : Channel} {n : Nat} {rs : List Frame} (r : Frame) (hk : k.val = n + rs.length) :
    transferEvents n (rs ++ [r]) = transferEvents n rs ++ [.xstart (enc k), .xend (.ok r)] := by
  induction rs generalizing n with
  | nil =>
    obtain rfl : k.val = n := hk
    simp [transferEvents]
  | cons q qs ih =>
    rw [List.length_cons] at hk
    simp [transferEvents, ih (n := n + 1) (by omega)]

/-- The entry of the channel just collected holds its Sample, and those below keep theirs. -/
theorem acc_set_concat {k : Channel} {rs : List Frame} {acc : Vector (Option Sample) 8} (r : Frame)
    (hk : k.val = rs.length) (hacc : ∀ (i : Channel) (hi : i.val < rs.length), acc[i] = some (dec rs[i.val])) (i : Channel)
    (hi : i.val < (rs ++ [r]).length) : (acc.set k.val (some (dec r)))[i] = some (dec (rs ++ [r])[i.val]) := by
  rcases Nat.lt_or_ge i.val rs.length with hlow | hge
  · have hne : k.val ≠ i.val := by omega
    simpa [Vector.getElem_set_ne _ _ hne, List.getElem_append_left hlow] using hacc i hlow
  · rw [List.length_append, List.length_singleton] at hi
    obtain rfl : i = k := Fin.ext (by omega)
    simp [hk]

/-- Before channel 7 a good transfer collects one more frame. -/
theorem State.Collecting.transfer {k : Channel} {rs : List Frame} {past : List Event} {s : State} {r : Frame}
    {rest : List XEnd} (hs : s.Collecting k rs past) (h7 : k.val < 7) (hanswers : s.answers = .ok r :: rest) :
    ∃ t, steps 3 s = .next t ∧ t.Collecting (k + 1) (rs ++ [r]) past ∧ t.answers = rest := by
  have hsteps := steps_transfer hs.starting hanswers ((endTransfer_ok_next_iff r _ _).mpr
    (.inr ⟨hs.op, k, hs.current, (collect_next_iff k r _ _).mpr (.inl ⟨h7, rfl⟩)⟩))
  refine ⟨_, hsteps, ⟨rfl, hs.rst, rfl, hs.op, rfl, ?length, acc_set_concat r hs.length hs.acc, ?history⟩, rfl⟩
  case length => rw [channel_succ_val h7, hs.length, List.length_append, List.length_singleton]
  case history =>
    simp [State.answered, hs.history, transferEvents_concat r (hs.length.trans (Nat.zero_add rs.length).symm)]

/-- So do more good transfers, up to channel 7. -/
theorem State.Collecting.transfers {k : Channel} {qs rs : List Frame} {past : List Event} {s : State} {rest : List XEnd}
    (hs : s.Collecting k rs past) (h7 : k.val + qs.length ≤ 7) (hanswers : s.answers = qs.map XEnd.ok ++ rest) :
    ∃ j t, steps (3 * qs.length) s = .next t ∧ t.Collecting j (rs ++ qs) past ∧ t.answers = rest := by
  induction qs generalizing k rs s with
  | nil => exact ⟨k, s, rfl, by simpa using hs, hanswers⟩
  | cons q qs ih =>
    rw [List.length_cons] at h7 ⊢
    have hk : k.val < 7 := by omega
    obtain ⟨u, hfirst, hu, hrest⟩ := hs.transfer hk hanswers
    obtain ⟨j, t, hothers, ht, hlast⟩ := ih hu (by rw [channel_succ_val hk]; omega) hrest
    refine ⟨j, t, ?_, by simpa using ht, hlast⟩
    rw [Nat.mul_succ, Nat.add_comm, steps_add _ hfirst, hothers]

/-- READ_ALL accepted by a ready block has collected nothing yet. -/
theorem collecting_of_readAll {s : State} (hready : s.Ready) :
    (acceptRequest .readAll s).Collecting 0 [] (.req .readAll :: s.history) where
  phase := rfl
  rst := hready.rst
  xend := hready.xend
  op := rfl
  current := rfl
  length := rfl
  acc _ hi := absurd hi (Nat.not_lt_zero _)
  history := rfl

/-- A READ_ALL from its request through its first good transfers. -/
theorem steps_readAll {x : Nat} {qs : List Frame} {rest : List XEnd} {s : State} (hready : s.Ready) (hx : x < 2 ^ s.chW)
    (hreq : s.req = some (2 ^ s.chW + x)) (h7 : qs.length ≤ 7) (hanswers : s.answers = qs.map XEnd.ok ++ rest) :
    ∃ k t, steps (1 + 3 * qs.length) s = .next t ∧ t.Collecting k qs (.req .readAll :: s.history) ∧ t.answers = rest := by
  obtain ⟨k, t, hsteps, ht, hrest⟩ := (collecting_of_readAll hready).transfers (qs := qs) (by simpa using h7) hanswers
  refine ⟨k, t, ?_, ht, hrest⟩
  rw [Nat.add_comm, steps_succ_of_step _ (step_idle_readAll hready.phase hready.rst hready.xend hx hreq), hsteps]

/-- Settles O46. The good transfers before channel k are collected; its failure ends the operation. -/
theorem readAllStopsAtTheFirstFailure : Obligations.ReadAllStopsAtTheFirstFailure := by
  unfold Obligations.ReadAllStopsAtTheFirstFailure
  intro x k rs rest s hready hx hreq hlen hanswers
  obtain ⟨j, u, hgood, hu, hfail⟩ := steps_readAll hready hx hreq (by omega) hanswers
  obtain rfl : j = k := Fin.ext (hu.length.trans hlen)
  obtain ⟨t, hlast, hidle, hempty, hrest, hrsp, hhistory⟩ := steps_transfer_fail hu.starting hfail
  refine ⟨t, ?_, hidle, hempty, hrest, hrsp, by rw [hhistory, hu.history]⟩
  rw [Nat.mul_succ, ← Nat.add_assoc, ← hlen, steps_add 3 hgood, hlast]

/-- At channel 7 a good transfer completes the Reading Set and ends the operation. -/
theorem State.Collecting.complete {rs : List Frame} {past : List Event} {s : State} {r : Frame} {rest : List XEnd}
    {v : Vector Sample 8} (hs : s.Collecting 7 rs past) (hanswers : s.answers = .ok r :: rest)
    (hlow : ∀ (i : Channel) (hi : i.val < rs.length), v[i] = dec rs[i.val]) (hlast : v[7] = dec r) :
    ∃ t, steps 3 s = .next t ∧ t.phase = .idle ∧ t.Empty ∧ t.answers = rest ∧ t.rsp = some (.readingSet v) ∧
      t.history = .rsp (.readingSet v) :: ((transferEvents 0 (rs ++ [r])).reverse ++ past) := by
  have h7 : 7 = rs.length := hs.length
  have hset : s.acc.set 7 (some (dec r)) = v.map some := by
    rw [← hlast]
    exact set_last_eq_map_some fun i hi => by rw [hs.acc i (by omega), hlow i (by omega)]
  have hsteps := steps_transfer hs.starting hanswers ((endTransfer_ok_next_iff r _ _).mpr
    (.inr ⟨hs.op, 7, hs.current, (collect_next_iff 7 r _ _).mpr (.inr ⟨rfl, v, hset, rfl⟩)⟩))
  refine ⟨_, hsteps, rfl, respond_empty _ _, rfl, rfl, ?_⟩
  simp [State.answered, hs.history, transferEvents_concat r (hs.length.trans (Nat.zero_add rs.length).symm)]

/-- Settles O45. Seven good transfers are collected, and the eighth completes the Reading Set. -/
theorem readAllDeliversTheReadingSet : Obligations.ReadAllDeliversTheReadingSet := by
  unfold Obligations.ReadAllDeliversTheReadingSet
  intro x rs rest s hready hx hreq hanswers
  have hsplit : rs.toList.take 7 ++ [rs[7]] = rs.toList := by
    rw [← Vector.getElem_toList (by simp), List.take_append_getElem]
    simp
  have hlen : (rs.toList.take 7).length = 7 := by simp
  rw [← hsplit, List.map_append, List.append_assoc] at hanswers
  obtain ⟨k, u, hgood, hu, hlast⟩ := steps_readAll hready hx hreq hlen.le hanswers
  obtain rfl : k = 7 := Fin.ext (hu.length.trans hlen)
  obtain ⟨t, hsteps, hidle, hempty, hrest, hrsp, hhistory⟩ := hu.complete (v := rs.map dec) hlast (by simp) (by simp)
  refine ⟨t, ?_, hidle, hempty, hrest, hrsp, by rw [hhistory, hsplit]⟩
  rw [hlen] at hgood
  exact (steps_add 3 hgood).trans hsteps

/-- The answers of the reference device to the eight frames (R72). -/
def deviceFrames (v : Vector Sample 8) (j0 : Vector Byte 8) (j1 : Vector (BitVec 6) 8) : Vector Frame 8 :=
  Vector.ofFn fun c : Channel => answerFrame v[c] j0[c] j1[c]

/-- They decode to the values the device is configured with. -/
theorem map_dec_deviceFrames (v : Vector Sample 8) (j0 : Vector Byte 8) (j1 : Vector (BitVec 6) 8) :
    (deviceFrames v j0 j1).map dec = v := by
  ext1 i hi
  simp [deviceFrames, dec_answerFrame]

/-- A list of answers that holds the device's answer at each channel begins with these. -/
theorem answers_eq_deviceFrames {v : Vector Sample 8} {j0 : Vector Byte 8} {j1 : Vector (BitVec 6) 8} {answers : List XEnd}
    (h : ∀ c : Channel, ∃ r, refDevice v j0[c] j1[c] (enc c) = some r ∧ answers[c.val]? = some (.ok r)) :
    answers = (deviceFrames v j0 j1).toList.map XEnd.ok ++ answers.drop 8 := by
  have hat : ∀ c : Channel, answers[c.val]? = some (.ok (answerFrame v[c] j0[c] j1[c])) := fun c => by
    obtain ⟨r, hr, hanswer⟩ := h c
    rw [refDevice_enc] at hr
    rw [hanswer, Option.some.inj hr]
  have htake : answers.take 8 = (deviceFrames v j0 j1).toList.map XEnd.ok := by
    refine List.ext_getElem? fun i => ?_
    rcases Nat.lt_or_ge i 8 with hi | hi
    · rw [List.getElem?_take_of_lt hi, hat ⟨i, hi⟩]
      simp [deviceFrames, hi]
    · rw [List.getElem?_eq_none (by simp; omega), List.getElem?_eq_none (by simpa using hi)]
  rw [← htake, List.take_append_drop]

/-- Settles O47. The device's answers are eight good ones, so READ_ALL delivers what they decode to. -/
theorem readAllReadsTheReferenceDevice : Obligations.ReadAllReadsTheReferenceDevice := by
  unfold Obligations.ReadAllReadsTheReferenceDevice
  intro x v j0 j1 rest s hready hx hreq hdevice hdrop
  subst hdrop
  obtain ⟨t, hsteps, -, -, hrest, hrsp, -⟩ := readAllDeliversTheReadingSet x (deviceFrames v j0 j1) _ s hready hx hreq
    (answers_eq_deviceFrames hdevice)
  rw [map_dec_deviceFrames] at hrsp
  exact ⟨t, hsteps, hrsp, hrest⟩

end Sys2Proof.Machine
end
